-- ==== Sys2Proof/Word.lean ====
section
/-! DEFINITION. The word types of the HMAC-SHA1 core (spec/00_scope.md R4 to R6): every quantity of the core is an
unsigned bit vector of the width the spec gives it, and `+` on a `BitVec n` is addition mod 2^n. -/

namespace Sys2Proof

/-- A byte, 0..255 (R5). -/
abbrev Byte := BitVec 8

/-- A `u32`: one bus word, one register, one SHA-1 word (R2 BUS_WIDTH, R6, R23). -/
abbrev Word := BitVec 32

/-- A 64-bit quantity: TIME, CTR (R1 CTR_WIDTH, R2 TIME_WIDTH). -/
abbrev Quad := BitVec 64

/-- A byte offset in the 4096-byte register window (R2 OFF_WIDTH). -/
abbrev Offset := BitVec 12

/-- The OP field of a command word (R101). -/
abbrev Op := BitVec 4

end Sys2Proof
end

