-- ==== Sys2Proof/Config.lean ====
section
/-! DEFINITION. What an implementation fixes (spec/00_scope.md R1 to R3). R1 and R2 give values; the base address of the
window is open (R3), so it is a constant with no body. The other open parameter of R3, LATENCY, is not a number in the
model: where a completion falls is a place in the list of events the state holds. -/

namespace Sys2Proof.Config

/-- PERIOD, seconds per time step (R1). -/
@[simp] abbrev period : Nat := 30

/-- DIGITS, decimal digits of a code (R1). -/
@[simp] abbrev digits : Nat := 6

/-- MSG_LEN, bytes in the counter block (R1). -/
@[simp] abbrev msgLen : Nat := 8

/-- HASH_LEN, bytes of an HMAC-SHA1 tag (R1). -/
@[simp] abbrev hashLen : Nat := 20

/-- BLOCK_LEN, the SHA-1 block size in bytes (R2). -/
@[simp] abbrev blockLen : Nat := 64

/-- KEY_MAX, the largest key length in bytes (R2). -/
@[simp] abbrev keyMax : Nat := 128

/-- The size in bytes of the register window: OFF_WIDTH is 12 bits (R2). -/
@[simp] abbrev windowLen : Nat := 4096

/-- The 4096-byte page the platform puts the register window in. R3 leaves it open: a free constant, with no value. -/
opaque corePage : Nat

/-- CORE_BASE, the bus address of offset 0: a multiple of 4096 (R3). -/
def coreBase : Nat := windowLen * corePage

end Sys2Proof.Config
end

