-- ==== Sys2Proof/Syntax.lean ====
section
/-! DEFINITION. The syntax of everything the machine reads: the commands (format CMD, spec/30_encoding.md R100, R101,
R105), the registers of the map (spec/10_state.md R50), bus accesses (format BUS, R102), the steps of the total order
(spec/00_scope.md R10) and the host's assembly statements (R111). -/

namespace Sys2Proof

/-- The command words of R105, one constructor per row of spec/opcode_table.json. No command has an operand field
(R101): its operands are fixed registers (R103). -/
inductive Instr where
  /-- OP 0x0, no operation (R222). -/
  | nop
  /-- OP 0x1, CTR <- TIME div 30 (R151). -/
  | tstep
  /-- OP 0x2, CBLK <- bytes64(CTR) (R153). -/
  | encode
  /-- OP 0x3, MAC <- HMAC-SHA1(key, CBLK) (R181). -/
  | hmac
  /-- OP 0x4, truncation and formatting of MAC (R204). -/
  | trunc
  /-- OP 0x5, ENCODE, HMAC, TRUNC (R220). -/
  | hotp
  /-- OP 0x6, TSTEP, ENCODE, HMAC, TRUNC (R221). -/
  | totp
  /-- OP 0x7, clear KEY and KEYLEN (R223). -/
  | keyclr
  /-- OP 0x8, clear every data register (R225). -/
  | zeroize
  /-- OP 0xF, soft reset, accepted even while busy (R226). -/
  | sreset
  /-- OP 0x9, reserved (R106). -/
  | reserved9
  /-- OP 0xA, reserved (R106). -/
  | reservedA
  /-- OP 0xB, reserved (R106). -/
  | reservedB
  /-- OP 0xC, reserved (R106). -/
  | reservedC
  /-- OP 0xD, reserved (R106). -/
  | reservedD
  /-- OP 0xE, reserved (R106). -/
  | reservedE
  deriving DecidableEq, Repr

/-- The mapped registers, in the order of the map (R50). -/
inductive Reg where
  | id
  | ctrl
  | status
  | cmd
  | keylen
  | timeHi
  | timeLo
  | ctrHi
  | ctrLo
  | cblk (i : Fin 2)
  | mac (i : Fin 5)
  | truncOff
  | dbc
  | code
  | digits (i : Fin 2)
  | keyW (i : Fin 32)
  deriving DecidableEq, Repr

/-- The direction of a bus access, with the data of a write (R102 DIR, WDATA). -/
inductive Dir where
  | read
  | write (data : Word)
  deriving DecidableEq, Repr

/-- One host bus access at the slave port (format BUS, R102). -/
structure Access where
  /-- OFF, `address - CORE_BASE`. -/
  off : Offset
  /-- SIZE, the bytes moved. -/
  size : Nat
  dir : Dir
  deriving DecidableEq, Repr

/-- One step of the total order of R10 and R82: a host access, a completion step of the core, or a change of the reset
input `rst_n`. -/
inductive Event where
  | access (a : Access)
  | complete
  | assertReset
  | releaseReset
  deriving DecidableEq, Repr

/-- A core statement of the host assembly (R111). Labels are positions in the program; `REG` stands for its offset. -/
inductive HostStmt where
  /-- `wr REG, imm32`. -/
  | wr (off : Offset) (imm : Word)
  /-- `rd REG`; the value read is called `$`. -/
  | rd (off : Offset)
  /-- `bnz $, MASK, label`. -/
  | bnz (mask : Word) (label : Nat)
  /-- `bz $, MASK, label`. -/
  | bz (mask : Word) (label : Nat)
  /-- `expect $, imm32`. -/
  | expect (imm : Word)
  deriving DecidableEq, Repr

end Sys2Proof
end

