-- ==== Sys2Proof/WellFormed.lean ====
section
/-! DEFINITION. Well-formed syntax. A command has no operand field, so no term of `Instr` is ill formed (spec/30_encoding.md
R101). A bus access is well formed when the slave port does not answer it with SLVERR: its size, its alignment and its
offset are checked (spec/60_exceptions.md R242). A host program's branch targets and a key given to `ldkey` are checked
against R111 and R112. -/

namespace Sys2Proof

/-- Format CMD holds no register, immediate or mode field (R101): every constructor is well formed. -/
def Instr.wellFormed : Instr → Bool
  | .nop | .tstep | .encode | .hmac | .trunc | .hotp | .totp | .keyclr | .zeroize | .sreset => true
  | .reserved9 | .reservedA | .reservedB | .reservedC | .reservedD | .reservedE => true

/-- SIZE is legal only as 4 (R73, R102). -/
def Access.sizeOk (a : Access) : Bool := a.size == 4

/-- The offset is a multiple of 4 (R73). -/
def Access.alignedOk (a : Access) : Bool := a.off.toNat % 4 == 0

/-- The offset lies in none of the unmapped ranges R242 lists: 0x014, 0x058 to 0x0FC, 0x180 to 0xFFC. -/
def Access.mappedOk (a : Access) : Bool :=
  !(0x014 ≤ a.off.toNat && a.off.toNat ≤ 0x017) && !(0x058 ≤ a.off.toNat && a.off.toNat ≤ 0x0FF)
    && !(0x180 ≤ a.off.toNat)

/-- An access that R242 names no bus error for. -/
def Access.wellFormed (a : Access) : Bool := a.sizeOk && a.alignedOk && a.mappedOk

/-- A branch names a position of the program or its end (R111 `label:`). -/
def HostStmt.labelOk (len : Nat) : HostStmt → Bool
  | .bnz _ label | .bz _ label => label ≤ len
  | .wr _ _ | .rd _ | .expect _ => true

/-- A host program whose labels all exist. -/
def hostProgramOk (p : List HostStmt) : Bool := p.all (HostStmt.labelOk p.length)

/-- `ldkey` takes at most 128 bytes (R112). -/
def ldkeyOk (key : List Byte) : Bool := key.length ≤ Config.keyMax

end Sys2Proof
end

