-- ==== Sys2Proof/Decode.lean ====
section
/-! DEFINITION. Decoding (spec/30_encoding.md R100 to R110): a command word (format CMD) into a command, an offset of the
window (format BUS) into a register of the map, and the encoders beside them. -/

namespace Sys2Proof

/-- Why a command word selects no row of the opcode table. -/
inductive DecodeError where
  /-- RSV, bits 31..4, is not zero (R107). -/
  | reservedBitsSet (rsv : BitVec 28)
  deriving DecidableEq, Repr

/-- The OP field, bits 3..0 (R101). -/
def opField (w : Word) : Op := w.extractLsb' 0 4

/-- The RSV field, bits 31..4 (R101). -/
def rsvField (w : Word) : BitVec 28 := w.extractLsb' 4 28

/-- The row of the opcode map OP selects (R105, R109). All 16 values have one. -/
def instrOfOp (op : Op) : Instr :=
  match op.toNat with
  | 0x0 => .nop
  | 0x1 => .tstep
  | 0x2 => .encode
  | 0x3 => .hmac
  | 0x4 => .trunc
  | 0x5 => .hotp
  | 0x6 => .totp
  | 0x7 => .keyclr
  | 0x8 => .zeroize
  | 0x9 => .reserved9
  | 0xA => .reservedA
  | 0xB => .reservedB
  | 0xC => .reservedC
  | 0xD => .reservedD
  | 0xE => .reservedE
  | _ => .sreset

/-- Decoding of a command word, total over 32-bit words (R109). A word whose RSV is not zero is rejected by name
(R107); the reserved opcodes of R106 are rows of the table and decode to their own constructors. -/
def decode (w : Word) : Except DecodeError Instr :=
  if rsvField w = 0#28 then .ok (instrOfOp (opField w)) else .error (.reservedBitsSet (rsvField w))

/-- The opcode of each row (R105). -/
def opcode : Instr → Op
  | .nop => 0x0#4
  | .tstep => 0x1#4
  | .encode => 0x2#4
  | .hmac => 0x3#4
  | .trunc => 0x4#4
  | .hotp => 0x5#4
  | .totp => 0x6#4
  | .keyclr => 0x7#4
  | .zeroize => 0x8#4
  | .reserved9 => 0x9#4
  | .reservedA => 0xA#4
  | .reservedB => 0xB#4
  | .reservedC => 0xC#4
  | .reservedD => 0xD#4
  | .reservedE => 0xE#4
  | .sreset => 0xF#4

/-- The one 32-bit word of a row: `zext_32(OP)` (R105, R110). -/
def encode (i : Instr) : Word := (opcode i).setWidth 32

/-- The ten commands of R105: the rows that are not reserved (R106, R108). -/
def Instr.isCommand (i : Instr) : Bool :=
  !((opcode i).toNat ∈ [0x9, 0xA, 0xB, 0xC, 0xD, 0xE])

/-- The instruction the decoder reads from a table word of `nbits` bits. A command is one 32-bit word (R110), moved
whole over the bus, so there is no byte order to choose. -/
def decodeTableWord (nbits w : Nat) : Option Instr :=
  if nbits ≤ 32 then
    match decode (BitVec.ofNat 32 (w % 2 ^ nbits)) with
    | .ok i => some i
    | .error _ => none
  else none

/-- The offset of a register, `off(REG)` (R50, R111). -/
def Reg.offset : Reg → Offset
  | .id => 0x000#12
  | .ctrl => 0x004#12
  | .status => 0x008#12
  | .cmd => 0x00C#12
  | .keylen => 0x010#12
  | .timeHi => 0x018#12
  | .timeLo => 0x01C#12
  | .ctrHi => 0x020#12
  | .ctrLo => 0x024#12
  | .cblk i => BitVec.ofNat 12 (0x028 + 4 * i.val)
  | .mac i => BitVec.ofNat 12 (0x030 + 4 * i.val)
  | .truncOff => 0x044#12
  | .dbc => 0x048#12
  | .code => 0x04C#12
  | .digits i => BitVec.ofNat 12 (0x050 + 4 * i.val)
  | .keyW i => BitVec.ofNat 12 (0x100 + 4 * i.val)

/-- The register at word index `n` of the window (offset `4 * n`), or none where the map has no register (R50). -/
def regAtWord (n : Nat) : Option Reg :=
  match n with
  | 0 => some .id
  | 1 => some .ctrl
  | 2 => some .status
  | 3 => some .cmd
  | 4 => some .keylen
  | 5 => none
  | 6 => some .timeHi
  | 7 => some .timeLo
  | 8 => some .ctrHi
  | 9 => some .ctrLo
  | 10 => some (.cblk 0)
  | 11 => some (.cblk 1)
  | 12 => some (.mac 0)
  | 13 => some (.mac 1)
  | 14 => some (.mac 2)
  | 15 => some (.mac 3)
  | 16 => some (.mac 4)
  | 17 => some .truncOff
  | 18 => some .dbc
  | 19 => some .code
  | 20 => some (.digits 0)
  | 21 => some (.digits 1)
  | n => if h : 64 ≤ n ∧ n < 96 then some (.keyW ⟨n - 64, by omega⟩) else none

/-- The mapped register at an offset: the offset is a multiple of 4 and stands in the map (R50, R73). -/
def regAt (off : Offset) : Option Reg :=
  if off.toNat % 4 = 0 then regAtWord (off.toNat / 4) else none

end Sys2Proof
end

