-- ==== Sys2Proof/Machine/Bytes.lean ====
section
/-! DEFINITION. Byte order, rotation and byte sequences (spec/00_scope.md R5, R7; spec/10_state.md R41). -/

namespace Sys2Proof.Machine

/-- `be32`: four bytes to a word, the first the most significant (R7). -/
def be32 (b0 b1 b2 b3 : Byte) : Word := b0 ++ b1 ++ b2 ++ b3

/-- Byte `i` of a word, `bytes32(w)[i]`, byte 0 the most significant: bits `[31-8i : 24-8i]` (R7, R41). -/
def wordByte (w : Word) (i : Nat) : Byte := w.extractLsb' (24 - 8 * i) 8

/-- `bytes64(c)[i] = c[63-8i : 56-8i]` (R7, R152). -/
def quadByte (c : Quad) (i : Nat) : Byte := c.extractLsb' (56 - 8 * i) 8

/-- `bytes64` (R7, R152). -/
def bytes64 (c : Quad) : Vector Byte 8 :=
  #v[quadByte c 0, quadByte c 1, quadByte c 2, quadByte c 3, quadByte c 4, quadByte c 5, quadByte c 6, quadByte c 7]

/-- `be64`: eight bytes to a quad, the first the most significant (R7). -/
def be64 (b : Vector Byte 8) : Quad := be32 b[0] b[1] b[2] b[3] ++ be32 b[4] b[5] b[6] b[7]

/-- `ROTL(x, n)`, 0 < n < 32 (R7). -/
def rotl (x : Word) (n : Nat) : Word := (x <<< n) ||| (x >>> (32 - n))

/-- `be32(B[4t .. 4t+3])` of a byte sequence (R172). -/
def be32At (b : List Byte) (t : Nat) : Word :=
  be32 (b.getD (4 * t) 0#8) (b.getD (4 * t + 1) 0#8) (b.getD (4 * t + 2) 0#8) (b.getD (4 * t + 3) 0#8)

/-- The window word `i` of a byte array, `be32(A[4i .. 4i+3])` (R41). -/
def windowWord {n : Nat} (a : Vector Byte n) (i : Nat) (h : 4 * i + 3 < n) : Word :=
  be32 a[4 * i] a[4 * i + 1] a[4 * i + 2] a[4 * i + 3]

/-- `A[4i .. 4i+3] <- bytes32(w)` (R34, R41). -/
def setWindowWord {n : Nat} (a : Vector Byte n) (i : Nat) (w : Word) (h : 4 * i + 3 < n) : Vector Byte n :=
  (((a.set (4 * i) (wordByte w 0)).set (4 * i + 1) (wordByte w 1)).set (4 * i + 2) (wordByte w 2)).set (4 * i + 3)
    (wordByte w 3)

/-- One bit as a word, to be shifted to its place (R4). -/
def bitWord (b : Bool) : Word := (BitVec.ofBool b).setWidth 32

end Sys2Proof.Machine
end

