-- ==== Sys2Proof/Machine/State.lean ====
section
/-! DEFINITION. The state of the core (spec/10_state.md R20, R48, R50), its reset state (spec/70_reset_and_hazards.md R271),
and the reasons a step can stop. Reserved register bits have no storage: they read 0 and ignore writes (R25 to R40), so
each register is held at the width of its fields. -/

namespace Sys2Proof.Machine

/-- Why the machine stops. -/
inductive Fault where
  /-- Raised by a command's meaning when the core's turn is taken while that command is not the pending one: R135
  enables a completion exactly when BUSY = 1, for the opcode in PEND_OP, which is 0x1 to 0x8. No reachable state raises
  it. Safe: the core has no such step. -/
  | completionNotEnabled
  deriving DecidableEq, Repr

/-- Why a step has no meaning. -/
inductive Refusal where
  /-- An instruction whose meaning is not written, by its mnemonic; raised by `exec` alone. Safe. -/
  | notModelled (mnemonic : String)
  /-- Raised by a host access while `rst_n` is asserted: the platform issues none (R271, spec/93 U5 'refuse'). Safe: the
  spec gives the access no meaning. -/
  | accessDuringReset
  deriving DecidableEq, Repr

/-- The two agents that step the model (spec/00_scope.md R10). -/
inductive Agent where
  | host
  | core
  deriving DecidableEq, Repr

/-- The response to a bus access (spec/30_encoding.md R102). -/
inductive Response where
  /-- No access has been made yet. -/
  | noAccess
  /-- OKAY to a write. -/
  | okay
  /-- OKAY to a read, with its data. -/
  | data (v : Word)
  /-- The error response (spec/20_memory.md R72). -/
  | slverr
  deriving DecidableEq, Repr

/-- The error events that are raised (spec/60_exceptions.md R240). -/
inductive ErrorCode where
  | illegalCmd
  | keylenRange
  | busyWrite
  deriving DecidableEq, Repr

/-- The state of the core, then the reset input, then the model's own fields (the events still to come, the last bus
response, and whose turn it is). -/
structure State where
  /-- CTRL[0] DONE_IE (R25). -/
  doneIe : Bool
  /-- CTRL[1] ERR_IE (R25). -/
  errIe : Bool
  /-- CTRL[2] KEY_AUTOCLR (R25). -/
  keyAutoclr : Bool
  /-- STATUS[0] BUSY (R27). -/
  busy : Bool
  /-- STATUS[1] DONE (R27). -/
  done : Bool
  /-- STATUS[2] ERR (R27). -/
  err : Bool
  /-- STATUS[11:8] ERRCODE (R27). -/
  errcode : BitVec 4
  /-- KEYLEN.LEN (R31). -/
  keylen : BitVec 8
  /-- TIME_HI and TIME_LO (R32). -/
  timeHi : Word
  timeLo : Word
  /-- CTR_HI and CTR_LO (R33). -/
  ctrHi : Word
  ctrLo : Word
  /-- KEY[0..127] (R34). -/
  key : Vector Byte 128
  /-- CBLK[0..7] (R35). -/
  cblk : Vector Byte 8
  /-- MAC[0..19] (R36). -/
  mac : Vector Byte 20
  /-- TRUNC_OFF.OFF (R37). -/
  truncOff : BitVec 4
  /-- DBC.VAL (R38). -/
  dbc : BitVec 31
  /-- CODE.VAL (R39). -/
  code : BitVec 20
  /-- DIG[0..5] (R40). -/
  dig : Vector Byte 6
  /-- PEND_OP (R48). -/
  pendOp : Op
  /-- PEND_ACL (R48). -/
  pendAcl : Bool
  /-- The input port `rst_n` is asserted (R74, R271). -/
  inReset : Bool
  /-- The model's own: the steps still to come, in the total order of R82. -/
  events : List Event
  /-- The model's own: the slave port's response to the last access (R102). -/
  resp : Response
  /-- The model's own: the agent whose step this is (R10); it was the agent of the last step. -/
  turn : Agent
  deriving DecidableEq, Repr

/-- The reset state, every element at the value of R271, with `rst_n` released, no event to come and no access made. -/
def State.reset : State where
  doneIe := false
  errIe := false
  keyAutoclr := true
  busy := false
  done := false
  err := false
  errcode := 0#4
  keylen := 0#8
  timeHi := 0#32
  timeLo := 0#32
  ctrHi := 0#32
  ctrLo := 0#32
  key := Vector.replicate 128 0#8
  cblk := Vector.replicate 8 0#8
  mac := Vector.replicate 20 0#8
  truncOff := 0#4
  dbc := 0#31
  code := 0#20
  dig := Vector.replicate 6 0#8
  pendOp := 0#4
  pendAcl := false
  inReset := false
  events := []
  resp := .noAccess
  turn := .host

/-- What a step or a command answers. -/
abbrev Result := Host.Outcome State Fault Refusal

end Sys2Proof.Machine
end

