-- ==== Sys2Proof/Machine/Ops.lean ====
section
/-! DEFINITION. The operations every command shares: raising and clearing an error event, the two phases of a command's life
(acceptance and completion), AutoClear and reset (spec/40_execution.md, spec/60_exceptions.md, spec/70_reset_and_hazards.md). -/

namespace Sys2Proof.Machine

/-- The code held in STATUS.ERRCODE (R240). -/
def errorCode : ErrorCode → BitVec 4
  | .illegalCmd => 0x1#4
  | .keylenRange => 0x2#4
  | .busyWrite => 0x3#4

/-- `raise ErrorEvent(code)`: the exception entry of the core. The first error since ERR was last cleared is kept, and
nothing else changes (R241, R245). -/
def errorEvent (c : ErrorCode) (s : State) : State :=
  if s.err then s else { s with err := true, errcode := errorCode c }

/-- The return from an error: ERR and ERRCODE are cleared (R28, R246). -/
def clearError (s : State) : State := { s with err := false, errcode := 0#4 }

/-- The keyed opcodes: HMAC, HOTP and TOTP (R131, R135). -/
def isKeyed (op : Op) : Bool := op == 0x3#4 || op == 0x5#4 || op == 0x6#4

/-- `KEYLEN.LEN > KEY_MAX` (R131). -/
def keylenTooLong (s : State) : Bool := decide (Config.keyMax < s.keylen.toNat)

/-- `start(op)` (R134). -/
def startCommand (op : Op) (s : State) : State :=
  { s with pendOp := op, pendAcl := s.keyAutoclr, done := false, busy := true }

/-- `KEY[j] <- 0x00 for j in 0..127; KEYLEN <- 0` (R136, R223). -/
def clearKey (s : State) : State := { s with key := Vector.replicate 128 0#8, keylen := 0#8 }

/-- `AutoClear()` at the end of a completion step, when PEND_ACL = 1 and the command is a keyed one (R135, R136). -/
def autoClear (op : Op) (s : State) : State := if s.pendAcl && isKeyed op then clearKey s else s

/-- The end of a completion step (R135). -/
def finishCommand (s : State) : State := { s with busy := false, done := true }

/-- A CMD write of a command that a completion step will finish: R131 from the busy check on, in its order. -/
def acceptCommand (op : Op) (s : State) : State :=
  if s.busy then errorEvent .busyWrite s
  else if isKeyed op && keylenTooLong s then errorEvent .keylenRange s
  else startCommand op s

/-- The completion step of the pending command (R135), enabled exactly when BUSY = 1 and the command is the one in
PEND_OP. -/
def completeCommand (op : Op) (effect : State → State) (s : State) : Result :=
  if s.busy && s.pendOp == op then .next (finishCommand (autoClear op (effect s)))
  else .fault .completionNotEnabled

/-- The life cycle of a command that becomes pending (R130): its CMD write in the host's turn, its completion step in the
core's turn. -/
def lifeCycle (op : Op) (effect : State → State) (s : State) : Result :=
  match s.turn with
  | .host => .next (acceptCommand op s)
  | .core => completeCommand op effect s

/-- A command that takes its whole effect inside the CMD write (R130): it never becomes pending, so it has no completion
step. -/
def immediate (effect : State → State) (s : State) : Result :=
  match s.turn with
  | .host => .next (effect s)
  | .core => .fault .completionNotEnabled

/-- A CMD write of an illegal word: BUSY_WRITE while busy, ILLEGAL_CMD while idle (R106, R107, R131). -/
def rejectIllegal (s : State) : State := errorEvent (if s.busy then .busyWrite else .illegalCmd) s

/-- A host write to a busy-frozen operand register (R132). -/
def frozenWrite (store : State → State) (s : State) : State :=
  if s.busy then errorEvent .busyWrite s else store s

/-- `SoftReset()` (R226, R271): every element of the core takes its reset value. The input `rst_n` and the model's own
fields are no part of the core's state. -/
def softReset (s : State) : State :=
  { State.reset with inReset := s.inReset, events := s.events, resp := s.resp, turn := s.turn }

/-- An assertion of `rst_n` (R271). -/
def assertReset (s : State) : State := { softReset s with inReset := true }

/-- The release of `rst_n`: the core stays in the reset state and is idle (R271, R272). -/
def releaseReset (s : State) : State := { s with inReset := false }

end Sys2Proof.Machine
end

