-- ==== Sys2Proof/Machine/Operands.lean ====
section
/-! DEFINITION. The implicit operands of the commands (spec/30_encoding.md R103, R104) and the data registers as the host reads
and stores them (spec/10_state.md R31 to R46). -/

namespace Sys2Proof.Machine

/-- `TIME = TIME_HI * 2^32 + TIME_LO` (R46, R104). -/
def time (s : State) : Quad := s.timeHi ++ s.timeLo

/-- `CTR = CTR_HI * 2^32 + CTR_LO` (R46, R104). -/
def ctr (s : State) : Quad := s.ctrHi ++ s.ctrLo

/-- `CTR <- c`: both halves in one step (R46). -/
def setCtr (c : Quad) (s : State) : State := { s with ctrHi := c.extractLsb' 32 32, ctrLo := c.extractLsb' 0 32 }

/-- The key of a keyed command, `KEY[0..KEYLEN-1]` (R104, R180). -/
def keyBytes (s : State) : List Byte := s.key.toList.take s.keylen.toNat

/-- `KEYLEN <- v[7:0]` (R31). -/
def storeKeylen (v : Word) (s : State) : State := { s with keylen := v.extractLsb' 0 8 }

/-- A write to TIME_HI (R32). -/
def storeTimeHi (v : Word) (s : State) : State := { s with timeHi := v }

/-- A write to TIME_LO (R32). -/
def storeTimeLo (v : Word) (s : State) : State := { s with timeLo := v }

/-- A write to CTR_HI (R33). -/
def storeCtrHi (v : Word) (s : State) : State := { s with ctrHi := v }

/-- A write to CTR_LO (R33). -/
def storeCtrLo (v : Word) (s : State) : State := { s with ctrLo := v }

/-- `KEY[4i..4i+3] <- bytes32(v)` (R34, R42). -/
def storeKey (i : Fin 32) (v : Word) (s : State) : State :=
  { s with key := setWindowWord s.key i.val v (by omega) }

/-- `CBLK_Wi = be32(CBLK[4i..4i+3])` (R43). -/
def readCblk (s : State) (i : Fin 2) : Word := windowWord s.cblk i.val (by omega)

/-- `MAC_Wi = be32(MAC[4i..4i+3])` (R44). -/
def readMac (s : State) (i : Fin 5) : Word := windowWord s.mac i.val (by omega)

/-- `DIGITS_W0 = be32(DIG[0..3])`; `DIGITS_W1 = DIG[4]*2^24 + DIG[5]*2^16`, its bits 15..0 read 0 (R45). -/
def readDigits (s : State) (i : Fin 2) : Word :=
  match i with
  | 0 => be32 s.dig[0] s.dig[1] s.dig[2] s.dig[3]
  | 1 => be32 s.dig[4] s.dig[5] 0x00#8 0x00#8

end Sys2Proof.Machine
end

