-- ==== Sys2Proof/Machine/CounterEncoder.lean ====
section
/-! DEFINITION. The Counter Encoder: TSTEP and ENCODE (spec/41_counter_encoder.md R150 to R153). -/

namespace Sys2Proof.Machine

/-- `tstep(T) = T div PERIOD` (R150). -/
def tstep (t : Quad) : Quad := BitVec.ofNat 64 (t.toNat / Config.period)

/-- `exec_TSTEP()`: CTR <- tstep(TIME) (R151). -/
def tstepEffect (s : State) : State := setCtr (tstep (time s)) s

/-- `exec_ENCODE()`: CBLK <- bytes64(CTR) (R153). -/
def encodeEffect (s : State) : State := { s with cblk := bytes64 (ctr s) }

/-- TSTEP, OP 0x1 (R151). -/
def execTstep (s : State) : Result := lifeCycle 0x1#4 tstepEffect s

/-- ENCODE, OP 0x2 (R153). -/
def execEncode (s : State) : Result := lifeCycle 0x2#4 encodeEffect s

end Sys2Proof.Machine
end

