-- ==== Sys2Proof/Machine/Sha1.lean ====
section
/-! DEFINITION. SHA-1 and HMAC-SHA1 (spec/42_hmac_sha1.md R170 to R180). -/

namespace Sys2Proof.Machine

/-- The five words of the hash state (R173). -/
structure Digest where
  h0 : Word
  h1 : Word
  h2 : Word
  h3 : Word
  h4 : Word
  deriving DecidableEq, Repr

/-- The initial hash value (R173). -/
def sha1Init : Digest := ⟨0x67452301#32, 0xEFCDAB89#32, 0x98BADCFE#32, 0x10325476#32, 0xC3D2E1F0#32⟩

/-- `k`, the number of zero bytes of the padding: the smallest with `(len + 1 + k) mod 64 = 56` (R171). -/
def padZeros (len : Nat) : Nat := (119 - len % 64) % 64

/-- `pad(M)` (R171). -/
def pad (m : List Byte) : List Byte :=
  m ++ [0x80#8] ++ List.replicate (padZeros m.length) 0x00#8 ++ (bytes64 (BitVec.ofNat 64 (8 * m.length))).toList

/-- Words `W_t` of the schedule, latest first: `n` more words from rule `W_t = ROTL(W_(t-3) ⊕ W_(t-8) ⊕ W_(t-14) ⊕
W_(t-16), 1)` (R174). -/
def extendSchedule : Nat → List Word → List Word
  | 0, ws => ws
  | n + 1, ws =>
    extendSchedule n (rotl (ws.getD 2 0#32 ^^^ ws.getD 7 0#32 ^^^ ws.getD 13 0#32 ^^^ ws.getD 15 0#32) 1 :: ws)

/-- The eighty words `W_0 .. W_79` of one 64-byte block (R172, R174). -/
def schedule (block : List Byte) : List Word :=
  (extendSchedule 64 ((List.range 16).map (be32At block)).reverse).reverse

/-- `f_t(b, c, d)` (R175). -/
def roundF (t : Nat) (b c d : Word) : Word :=
  if t < 20 then (b &&& c) ||| (~~~b &&& d)
  else if t < 40 then b ^^^ c ^^^ d
  else if t < 60 then (b &&& c) ||| (b &&& d) ||| (c &&& d)
  else b ^^^ c ^^^ d

/-- `K_t` (R175). -/
def roundK (t : Nat) : Word :=
  if t < 20 then 0x5A827999#32
  else if t < 40 then 0x6ED9EBA1#32
  else if t < 60 then 0x8F1BBCDC#32
  else 0xCA62C1D6#32

/-- Round `t` of the compression, on `(a, b, c, d, e)` held as a `Digest` (R176). -/
def sha1Round (t : Nat) (w : Word) (r : Digest) : Digest where
  h0 := rotl r.h0 5 + roundF t r.h1 r.h2 r.h3 + r.h4 + roundK t + w
  h1 := r.h0
  h2 := rotl r.h1 30
  h3 := r.h2
  h4 := r.h3

/-- The rounds from `t` on, one for each word left of the schedule (R176). -/
def sha1Rounds : Nat → List Word → Digest → Digest
  | _, [], r => r
  | t, w :: ws, r => sha1Rounds (t + 1) ws (sha1Round t w r)

/-- Compression of one block into the hash state (R176). -/
def compress (h : Digest) (block : List Byte) : Digest :=
  let r := sha1Rounds 0 (schedule block) h
  ⟨h.h0 + r.h0, h.h1 + r.h1, h.h2 + r.h2, h.h3 + r.h3, h.h4 + r.h4⟩

/-- The first `n` 64-byte blocks of a padded message, in order (R172). -/
def splitBlocks : Nat → List Byte → List (List Byte)
  | 0, _ => []
  | n + 1, m => m.take Config.blockLen :: splitBlocks n (m.drop Config.blockLen)

/-- The final hash state of `SHA1(M)` (R177). -/
def sha1Digest (m : List Byte) : Digest :=
  (splitBlocks ((pad m).length / Config.blockLen) (pad m)).foldl compress sha1Init

/-- The 20 bytes of a hash state, `bytes32(H0) ‖ .. ‖ bytes32(H4)` (R177). -/
def digestBytes (h : Digest) : Vector Byte 20 :=
  #v[wordByte h.h0 0, wordByte h.h0 1, wordByte h.h0 2, wordByte h.h0 3,
     wordByte h.h1 0, wordByte h.h1 1, wordByte h.h1 2, wordByte h.h1 3,
     wordByte h.h2 0, wordByte h.h2 1, wordByte h.h2 2, wordByte h.h2 3,
     wordByte h.h3 0, wordByte h.h3 1, wordByte h.h3 2, wordByte h.h3 3,
     wordByte h.h4 0, wordByte h.h4 1, wordByte h.h4 2, wordByte h.h4 3]

/-- `SHA1(M)` (R177). Irreducible, so that no unifier runs the hash on an unknown message: a proof unfolds it by name. -/
@[irreducible] def sha1 (m : List Byte) : Vector Byte 20 := digestBytes (sha1Digest m)

/-- `K'`: the key, hashed first when it is longer than a block (R180). -/
def hmacKey (k : List Byte) : List Byte := if Config.blockLen < k.length then (sha1 k).toList else k

/-- `K0 = K' ‖ 0x00^(64 - len(K'))` (R180). -/
def hmacBlockKey (k : List Byte) : List Byte :=
  hmacKey k ++ List.replicate (Config.blockLen - (hmacKey k).length) 0x00#8

/-- `K0 ⊕ ipad` for `b = 0x36`, `K0 ⊕ opad` for `b = 0x5C` (R179, R180). -/
def xorPad (k0 : List Byte) (b : Byte) : List Byte := k0.map (· ^^^ b)

/-- The inner hash of R180. -/
def hmacInner (k m : List Byte) : Vector Byte 20 := sha1 (xorPad (hmacBlockKey k) 0x36#8 ++ m)

/-- `HMAC_SHA1(K, m)` (R180). -/
def hmacSha1 (k m : List Byte) : Vector Byte 20 :=
  sha1 (xorPad (hmacBlockKey k) 0x5C#8 ++ (hmacInner k m).toList)

end Sys2Proof.Machine
end

