-- ==== Sys2Proof/Machine/KeyedHash.lean ====
section
/-! DEFINITION. The Keyed Hash Engine: HMAC (spec/42_hmac_sha1.md R181). -/

namespace Sys2Proof.Machine

/-- `exec_HMAC()`: MAC <- HMAC-SHA1(KEY[0..KEYLEN-1], CBLK) (R181). -/
def hmacEffect (s : State) : State := { s with mac := hmacSha1 (keyBytes s) s.cblk.toList }

/-- HMAC, OP 0x3 (R181). -/
def execHmac (s : State) : Result := lifeCycle 0x3#4 hmacEffect s

end Sys2Proof.Machine
end

