-- ==== Sys2Proof/Machine/Truncation.lean ====
section
/-! DEFINITION. Dynamic Truncation & Formatter: TRUNC (spec/43_truncation_formatter.md R200 to R204). -/

namespace Sys2Proof.Machine

/-- `offset(MAC) = MAC[19] & 0x0F` (R200). -/
def truncOffset (mac : Vector Byte 20) : BitVec 4 := mac[19].extractLsb' 0 4

/-- `extract(MAC, o) = be32(MAC[o..o+3]) & 0x7FFFFFFF`, a 31-bit value (R201). -/
def extractDbc (mac : Vector Byte 20) (o : BitVec 4) : BitVec 31 :=
  have h : o.toNat < 16 := o.isLt
  (be32 mac[o.toNat] mac[o.toNat + 1] mac[o.toNat + 2] mac[o.toNat + 3]).extractLsb' 0 31

/-- `reduce(x) = x mod 10^6` (R202). -/
def reduceCode (x : BitVec 31) : BitVec 20 := BitVec.ofNat 20 (x.toNat % 10 ^ Config.digits)

/-- Digit `i` of `decimal6(c)`: `0x30 + ((c div 10^(5-i)) mod 10)` (R203). -/
def decimalDigit (c : BitVec 20) (i : Nat) : Byte := BitVec.ofNat 8 (0x30 + c.toNat / 10 ^ (5 - i) % 10)

/-- `decimal6(c)`, the most significant digit first (R203). -/
def decimal6 (c : BitVec 20) : Vector Byte 6 :=
  #v[decimalDigit c 0, decimalDigit c 1, decimalDigit c 2, decimalDigit c 3, decimalDigit c 4, decimalDigit c 5]

/-- `exec_TRUNC()` (R204). -/
def truncEffect (s : State) : State :=
  let o := truncOffset s.mac
  let x := extractDbc s.mac o
  let c := reduceCode x
  { s with truncOff := o, dbc := x, code := c, dig := decimal6 c }

/-- TRUNC, OP 0x4 (R204). -/
def execTrunc (s : State) : Result := lifeCycle 0x4#4 truncEffect s

end Sys2Proof.Machine
end

