-- ==== Sys2Proof/Machine/Composite.lean ====
section
/-! DEFINITION. The composite commands HOTP and TOTP (spec/44_composite_and_control.md R220, R221). -/

namespace Sys2Proof.Machine

/-- `exec_HOTP()`: ENCODE, HMAC, TRUNC in one completion step (R220). -/
def hotpEffect (s : State) : State := truncEffect (hmacEffect (encodeEffect s))

/-- `exec_TOTP()`: TSTEP, ENCODE, HMAC, TRUNC in one completion step (R221). -/
def totpEffect (s : State) : State := truncEffect (hmacEffect (encodeEffect (tstepEffect s)))

/-- HOTP, OP 0x5 (R220). -/
def execHotp (s : State) : Result := lifeCycle 0x5#4 hotpEffect s

/-- TOTP, OP 0x6 (R221). -/
def execTotp (s : State) : Result := lifeCycle 0x6#4 totpEffect s

end Sys2Proof.Machine
end

