-- ==== Sys2Proof/Machine/Control.lean ====
section
/-! DEFINITION. The control commands NOP, KEYCLR, ZEROIZE and SRESET (spec/44_composite_and_control.md R222 to R226) and the
reserved opcodes (spec/30_encoding.md R106). -/

namespace Sys2Proof.Machine

/-- A NOP's CMD write: nothing while idle, BUSY_WRITE while busy (R222). -/
def nopEffect (s : State) : State := if s.busy then errorEvent .busyWrite s else s

/-- `exec_ZEROIZE()`: every data register takes 0; CTRL, ERR and ERRCODE are kept (R225). -/
def zeroizeEffect (s : State) : State :=
  { clearKey s with
    timeHi := 0#32
    timeLo := 0#32
    ctrHi := 0#32
    ctrLo := 0#32
    cblk := Vector.replicate 8 0#8
    mac := Vector.replicate 20 0#8
    truncOff := 0#4
    dbc := 0#31
    code := 0#20
    dig := Vector.replicate 6 0#8 }

/-- NOP, OP 0x0 (R222). -/
def execNop (s : State) : Result := immediate nopEffect s

/-- KEYCLR, OP 0x7: `exec_KEYCLR()` clears KEY and KEYLEN (R223). -/
def execKeyclr (s : State) : Result := lifeCycle 0x7#4 clearKey s

/-- ZEROIZE, OP 0x8 (R225). -/
def execZeroize (s : State) : Result := lifeCycle 0x8#4 zeroizeEffect s

/-- SRESET, OP 0xF: accepted even while busy; a pending command is aborted (R131, R138, R226). -/
def execSreset (s : State) : Result := immediate softReset s

/-- OP 0x9, reserved: it takes the error event of R106. -/
def execReserved9 (s : State) : Result := immediate rejectIllegal s

/-- OP 0xA, reserved: it takes the error event of R106. -/
def execReservedA (s : State) : Result := immediate rejectIllegal s

/-- OP 0xB, reserved: it takes the error event of R106. -/
def execReservedB (s : State) : Result := immediate rejectIllegal s

/-- OP 0xC, reserved: it takes the error event of R106. -/
def execReservedC (s : State) : Result := immediate rejectIllegal s

/-- OP 0xD, reserved: it takes the error event of R106. -/
def execReservedD (s : State) : Result := immediate rejectIllegal s

/-- OP 0xE, reserved: it takes the error event of R106. -/
def execReservedE (s : State) : Result := immediate rejectIllegal s

end Sys2Proof.Machine
end

