-- ==== Sys2Proof/Machine/Dispatch.lean ====
section
/-! DEFINITION. The one match of the machine: each command's meaning, in the turn the state names (spec/40_execution.md R131,
R135). -/

namespace Sys2Proof.Machine

/-- The step command `i` takes in the state's turn: its CMD write in the host's, its completion in the core's. -/
def exec (i : Instr) (s : State) : Host.Outcome State Fault Refusal :=
  match i with
  | .nop => Sys2Proof.Machine.execNop s
  | .tstep => Sys2Proof.Machine.execTstep s
  | .encode => Sys2Proof.Machine.execEncode s
  | .hmac => Sys2Proof.Machine.execHmac s
  | .trunc => Sys2Proof.Machine.execTrunc s
  | .hotp => Sys2Proof.Machine.execHotp s
  | .totp => Sys2Proof.Machine.execTotp s
  | .keyclr => Sys2Proof.Machine.execKeyclr s
  | .zeroize => Sys2Proof.Machine.execZeroize s
  | .sreset => Sys2Proof.Machine.execSreset s
  | .reserved9 => Sys2Proof.Machine.execReserved9 s
  | .reservedA => Sys2Proof.Machine.execReservedA s
  | .reservedB => Sys2Proof.Machine.execReservedB s
  | .reservedC => Sys2Proof.Machine.execReservedC s
  | .reservedD => Sys2Proof.Machine.execReservedD s
  | .reservedE => Sys2Proof.Machine.execReservedE s

end Sys2Proof.Machine
end

