-- ==== Sys2Proof/Machine/Flags.lean ====
section
/-! DEFINITION. The control and status registers as the host reads and writes them, and the interrupt output
(spec/10_state.md R25 to R29, R49; spec/60_exceptions.md R247). -/

namespace Sys2Proof.Machine

/-- CTRL as it is read: bits 31..3 are 0 (R25, R26). -/
def readCtrl (s : State) : Word := bitWord s.keyAutoclr <<< 2 ||| bitWord s.errIe <<< 1 ||| bitWord s.doneIe

/-- `CTRL <- v & 0x00000007`, allowed while busy (R25, R26). -/
def writeCtrl (v : Word) (s : State) : State :=
  { s with doneIe := v.getLsbD 0, errIe := v.getLsbD 1, keyAutoclr := v.getLsbD 2 }

/-- STATUS as it is read: `ERRCODE << 8 | ERR << 2 | DONE << 1 | BUSY` (R28). -/
def readStatus (s : State) : Word :=
  s.errcode.setWidth 32 <<< 8 ||| bitWord s.err <<< 2 ||| bitWord s.done <<< 1 ||| bitWord s.busy

/-- Writing 1 to STATUS bit 1 clears DONE (R28). -/
def clearDone (s : State) : State := { s with done := false }

/-- A write to STATUS: bit 1 clears DONE, bit 2 clears ERR and ERRCODE, every other bit is ignored (R28). -/
def writeStatus (v : Word) (s : State) : State :=
  let s1 := if v.getLsbD 1 then clearDone s else s
  if v.getLsbD 2 then clearError s1 else s1

/-- The level output `irq` (R49, R247). -/
def irq (s : State) : Bool := (s.done && s.doneIe) || (s.err && s.errIe)

end Sys2Proof.Machine
end

