-- ==== Sys2Proof/Machine/Bus.lean ====
section
/-! DEFINITION. The slave port: MemRead and MemWrite (spec/20_memory.md R70 to R73), the registers behind the offsets
(spec/10_state.md R50), and the steps of the two agents in their total order (spec/00_scope.md R10, spec/20_memory.md R82). -/

namespace Sys2Proof.Machine

/-- The constant of register ID (R21). -/
def idValue : Word := 0x48533101#32

/-- The value a read of a mapped register returns. Write-only registers read 0 and reserved bits read 0 (R21 to R45,
R70). -/
def regRead (s : State) : Reg → Word
  | .id => idValue
  | .ctrl => readCtrl s
  | .status => readStatus s
  | .cmd => 0#32
  | .keylen => s.keylen.setWidth 32
  | .timeHi => s.timeHi
  | .timeLo => s.timeLo
  | .ctrHi => s.ctrHi
  | .ctrLo => s.ctrLo
  | .cblk i => readCblk s i
  | .mac i => readMac s i
  | .truncOff => s.truncOff.setWidth 32
  | .dbc => s.dbc.setWidth 32
  | .code => s.code.setWidth 32
  | .digits i => readDigits s i
  | .keyW _ => 0#32

/-- The register an access reaches: none where R70 and R71 answer SLVERR for its size, its alignment or its offset. -/
def accessReg (off : Offset) (size : Nat) : Option Reg := if size = 4 then regAt off else none

/-- `MemRead(off, n)`: the response alone; a read changes no state of the core (R70). -/
def memRead (s : State) (off : Offset) (size : Nat) : Response :=
  match accessReg off size with
  | some r => .data (regRead s r)
  | none => .slverr

/-- A write of `v` to CMD: the word is decoded and its command's meaning taken; a word that decodes to no row is illegal
(R30, R107, R131). -/
def cmdWrite (v : Word) (s : State) : Result :=
  match decode v with
  | .ok i => exec i s
  | .error _ => .next (rejectIllegal s)

/-- A write of `v` to a mapped register (R71): read-only registers ignore it, CTRL and STATUS take it at any time, CMD
presents a command, and the operand registers are busy-frozen. -/
def regWrite (r : Reg) (v : Word) (s : State) : Result :=
  match r with
  | .id | .cblk _ | .mac _ | .truncOff | .dbc | .code | .digits _ => .next s
  | .ctrl => .next (writeCtrl v s)
  | .status => .next (writeStatus v s)
  | .cmd => cmdWrite v s
  | .keylen => .next (frozenWrite (storeKeylen v) s)
  | .timeHi => .next (frozenWrite (storeTimeHi v) s)
  | .timeLo => .next (frozenWrite (storeTimeLo v) s)
  | .ctrHi => .next (frozenWrite (storeCtrHi v) s)
  | .ctrLo => .next (frozenWrite (storeCtrLo v) s)
  | .keyW i => .next (frozenWrite (storeKey i v) s)

/-- `MemWrite(off, n, v)` (R71). SLVERR changes no state of the core (R72); the response is OKAY otherwise. -/
def memWrite (off : Offset) (size : Nat) (v : Word) (s : State) : Result :=
  match accessReg off size with
  | some r => regWrite r v { s with resp := .okay }
  | none => .next { s with resp := .slverr }

/-- The host's step: one bus access (R10). -/
def hostStep (a : Access) (s : State) : Result :=
  match a.dir with
  | .read => .next { s with resp := memRead s a.off a.size, turn := .host }
  | .write v => memWrite a.off a.size v { s with turn := .host }

/-- The core's step: the completion of the command in PEND_OP, when it is enabled (R135). A step that is not enabled does
nothing; while `rst_n` is asserted the core takes none (R271). -/
def coreStep (s : State) : Result :=
  if s.busy && !s.inReset then exec (instrOfOp s.pendOp) { s with turn := .core } else .next s

/-- One step of the total order (R10, R82). No host access is issued while `rst_n` is asserted (R271). -/
def takeEvent (e : Event) (s : State) : Result :=
  match e with
  | .access a => if s.inReset then .refused .accessDuringReset else hostStep a s
  | .complete => coreStep s
  | .assertReset => .next (assertReset s)
  | .releaseReset => .next (releaseReset s)

/-- The next step: the first event still to come. When none is left the core alone can move: a pending command
completes, which is the weak fairness of R135, and an idle core waits (R272). -/
def nextStep (s : State) : Result :=
  match s.events with
  | [] => coreStep s
  | e :: rest => takeEvent e { s with events := rest }

/-- The access the platform's address decoder hands to the slave port for a bus address: the offset from CORE_BASE when
the address lies in the window, none when it does not reach the core (R70, R75, R102). -/
def platformRoute (addr size : Nat) (dir : Dir) : Option Access :=
  if Config.coreBase ≤ addr ∧ addr < Config.coreBase + Config.windowLen then
    some { off := BitVec.ofNat 12 (addr - Config.coreBase), size := size, dir := dir }
  else none

end Sys2Proof.Machine
end

