-- ==== Sys2Proof/Machine/Step.lean ====
section
/-! DEFINITION. The step of the machine, and how an instruction is placed where the next step runs it. -/

namespace Sys2Proof.Machine

/-- One step of the total order of R10. -/
def step (s : State) : Host.Outcome State Fault Refusal := nextStep s

/-- `s` with a host write of the command word `w` to CMD as the very next step: a command takes effect from that write
(R87, R110). `rst_n` is released, as the platform issues no access while it is asserted (R271). -/
def State.withFetchWord (s : State) (nbits w : Nat) : State :=
  { s with
    inReset := false
    events := .access { off := 0x00C#12, size := 4, dir := .write (BitVec.ofNat 32 (w % 2 ^ nbits)) } :: s.events }

end Sys2Proof.Machine
end

