-- ==== Sys2Proof/Machine/HostAsm.lean ====
section
/-! DEFINITION. The host's assembly (spec/30_encoding.md R111, R112): the expansions of its pseudo-instructions, and what a
statement does at the slave port. The host is outside the core; its position and its `$` are no part of State. -/

namespace Sys2Proof.Machine

/-- `cmd MNEMONIC` = `wr CMD, OP` (R112). -/
def asmCmd (i : Instr) : List HostStmt := [.wr (Reg.offset .cmd) (encode i)]

/-- `ldctr c64` (R112). -/
def asmLdctr (c : Quad) : List HostStmt :=
  [.wr (Reg.offset .ctrHi) (c.extractLsb' 32 32), .wr (Reg.offset .ctrLo) (c.extractLsb' 0 32)]

/-- `ldtime t64` (R112). -/
def asmLdtime (t : Quad) : List HostStmt :=
  [.wr (Reg.offset .timeHi) (t.extractLsb' 32 32), .wr (Reg.offset .timeLo) (t.extractLsb' 0 32)]

/-- `ldkey b0 .. b(n-1)`: one write for each started word, bytes past `n` being 0x00, then KEYLEN (R112). -/
def asmLdkey (b : List Byte) : List HostStmt :=
  (List.range ((b.length + 3) / 4)).map (fun i => .wr (BitVec.ofNat 12 (0x100 + 4 * i)) (be32At b i))
    ++ [.wr (Reg.offset .keylen) (BitVec.ofNat 32 b.length)]

/-- `wait`, standing at position `pos` of its program (R112). -/
def asmWait (pos : Nat) : List HostStmt := [.rd (Reg.offset .status), .bnz 0x1#32 pos]

/-- `clrst` (R112). -/
def asmClrst : List HostStmt := [.wr (Reg.offset .status) 0x6#32]

/-- The host's side of a program: its position, the value `$` it read last, and whether an `expect` failed (R111). -/
structure HostCtx where
  pos : Nat
  last : Word
  failed : Bool
  deriving DecidableEq, Repr

/-- The value `$` after a read's response: SLVERR returns no data (R72, R111). -/
def hostData (r : Response) (old : Word) : Word :=
  match r with
  | .data v => v
  | .noAccess | .okay | .slverr => old

/-- A statement's move to the next position, beside the core's answer. -/
def hostNext (h : HostCtx) (r : Result) : Host.Outcome (HostCtx × State) Fault Refusal :=
  match r with
  | .next t => .next ({ h with pos := h.pos + 1, last := hostData t.resp h.last }, t)
  | .fault f => .fault f
  | .refused q => .refused q

/-- One statement of a host program (R111). A branch or an `expect` makes no bus access. -/
def hostExec (h : HostCtx) (s : State) : HostStmt → Host.Outcome (HostCtx × State) Fault Refusal
  | .wr off imm => hostNext h (takeEvent (.access { off := off, size := 4, dir := .write imm }) s)
  | .rd off => hostNext h (takeEvent (.access { off := off, size := 4, dir := .read }) s)
  | .bnz mask label => .next ({ h with pos := if h.last &&& mask ≠ 0#32 then label else h.pos + 1 }, s)
  | .bz mask label => .next ({ h with pos := if h.last &&& mask = 0#32 then label else h.pos + 1 }, s)
  | .expect imm => .next ({ h with pos := h.pos + 1, failed := h.failed || h.last != imm }, s)

/-- A turn of the host agent: the statement at its position, or nothing when the program has ended. -/
def hostTurn (p : List HostStmt) (h : HostCtx) (s : State) : Host.Outcome (HostCtx × State) Fault Refusal :=
  match p[h.pos]? with
  | some c => hostExec h s c
  | none => .next (h, s)

/-- A turn of the core agent beside a host program: the completion step, where it is enabled (R135). -/
def coreTurn (h : HostCtx) (s : State) : Host.Outcome (HostCtx × State) Fault Refusal :=
  match coreStep s with
  | .next t => .next (h, t)
  | .fault f => .fault f
  | .refused q => .refused q

/-- A host program beside the core, under a schedule that says whose turn each one is (R10, R82). -/
def hostRun (p : List HostStmt) : List Agent → HostCtx → State → Host.Outcome (HostCtx × State) Fault Refusal
  | [], h, s => .next (h, s)
  | a :: rest, h, s =>
    match (match a with | .host => hostTurn p h s | .core => coreTurn h s) with
    | .next (h', t) => hostRun p rest h' t
    | .fault f => .fault f
    | .refused q => .refused q

end Sys2Proof.Machine
end

