-- ==== Sys2Proof/Safety.lean ====
section
/-! DEFINITION. What every reachable state satisfies, and what a safe step is: the terms the claims use. -/

namespace Sys2Proof.Machine

/-- The core and its reset input hold exactly the reset state of R271, whatever the model's own fields are. -/
def State.isHeldReset (s : State) : Prop :=
  s = { State.reset with inReset := true, events := s.events, resp := s.resp, turn := s.turn }

/-- The invariant of the machine, each clause with its rule. -/
structure State.Inv (s : State) : Prop where
  /-- R29: ERRCODE is not 0 exactly when ERR = 1. -/
  errcode_iff : s.errcode ≠ 0#4 ↔ s.err = true
  /-- R240: the codes 0x4 to 0xF are never produced. -/
  errcode_named : s.errcode.toNat ≤ 3
  /-- R135: PEND_OP is one of 0x1 to 0x8 whenever BUSY = 1. -/
  pend_op : s.busy = true → 1 ≤ s.pendOp.toNat ∧ s.pendOp.toNat ≤ 8
  /-- R131, R132: a pending keyed command has a legal key length. -/
  pend_keylen : s.busy = true → isKeyed s.pendOp = true → s.keylen.toNat ≤ 128
  /-- R134, R135: DONE is 0 while BUSY = 1. -/
  not_done : s.busy = true → s.done = false
  /-- R47 (a): DIG is all 0x00 or the decimal string of CODE. -/
  dig : s.dig = Vector.replicate 6 0#8 ∨ s.dig = decimal6 s.code
  /-- R47 (b): CODE is DBC mod 10^6. -/
  code : s.code.toNat = s.dbc.toNat % 10 ^ 6
  /-- R271: while `rst_n` is asserted the core holds the reset state. -/
  held : s.inReset = true → s.isHeldReset

/-- The next step is a host access (R10). -/
def State.accessNext (s : State) : Prop := ∃ a rest, s.events = .access a :: rest

/-- The step answers a next state. -/
def State.steps (s : State) : Prop := ∃ t, step s = .next t

end Sys2Proof.Machine
end

