-- ==== Sys2Proof/Certificates/Slice0/Obligations.lean ====
section
/-! DEFINITION. The statements for the provers, each with the rule of the spec it says, and the words they are said in
(namespace Sys2Proof.Claims). Expected values are written from the spec's own formulas, as numbers where the spec gives
numbers. -/

open Sys2Proof Sys2Proof.Machine

namespace Sys2Proof.Claims

/-- `s` with one more event as its very next step (spec/20_memory.md R82). -/
def issue (e : Event) (s : State) : State := { s with events := e :: s.events }

/-- A 32-bit host write, `W off v` (R102). -/
def wr (off : Offset) (v : Word) : Event := .access { off := off, size := 4, dir := .write v }

/-- A 32-bit host read, `R off` (R102). -/
def rd (off : Offset) : Event := .access { off := off, size := 4, dir := .read }

/-- A write of a command word to CMD, `W 0x00C v`. -/
def wrCmd (v : Word) : Event := wr 0x00C#12 v

/-- Byte `i` of a byte sequence as a number. -/
def byteAt (b : List Byte) (i : Nat) : Nat := (b.getD i 0#8).toNat

/-- `be32(B[i..i+3])` as a number (R7). -/
def beNat (b : List Byte) (i : Nat) : Nat :=
  byteAt b i * 2 ^ 24 + byteAt b (i + 1) * 2 ^ 16 + byteAt b (i + 2) * 2 ^ 8 + byteAt b (i + 3)

/-- `TIME_HI * 2^32 + TIME_LO` (R46). -/
def timeNat (s : State) : Nat := s.timeHi.toNat * 2 ^ 32 + s.timeLo.toNat

/-- `CTR_HI * 2^32 + CTR_LO` (R46). -/
def ctrNat (s : State) : Nat := s.ctrHi.toNat * 2 ^ 32 + s.ctrLo.toNat

/-- The state after `raise ErrorEvent(code)` (R241). -/
def recorded (code : BitVec 4) (s : State) : State :=
  if s.err = true then s else { s with err := true, errcode := code }

/-- The reset state of R271 around the reset input and the model's own fields of `s`. -/
def resetCore (s : State) : State :=
  { State.reset with inReset := s.inReset, events := s.events, resp := s.resp, turn := s.turn }

/-- The state in which the core's completion step of `i` is enabled (R135): its turn, BUSY = 1, `i` pending. -/
def Pending (i : Instr) (s : State) : Prop := s.turn = .core ∧ s.busy = true ∧ s.pendOp = opcode i

/-- The key of R180, `KEY[0..KEYLEN-1]`. -/
def keyOf (s : State) : List Byte := s.key.toList.take s.keylen.toNat

/-- KEY and KEYLEN of `t` after a keyed command's completion from `s` (R136): cleared when PEND_ACL = 1, kept when 0. -/
def AutoCleared (s t : State) : Prop :=
  if s.pendAcl = true then t.key.toList = List.replicate 128 0#8 ∧ t.keylen = 0#8
  else t.key = s.key ∧ t.keylen = s.keylen

/-- CBLK of `t` is the counter `c`, most significant byte first (R152). -/
def HoldsCounterBlock (c : Nat) (t : State) : Prop :=
  ∀ i < 8, byteAt t.cblk.toList i = c / 2 ^ (8 * (7 - i)) % 256

/-- TRUNC_OFF, DBC, CODE and DIG of `t` are the truncation of the tag `mac` (R200 to R203). -/
def HoldsTruncation (mac : List Byte) (t : State) : Prop :=
  t.truncOff.toNat = byteAt mac 19 % 16 ∧
  t.dbc.toNat = beNat mac (byteAt mac 19 % 16) % 2 ^ 31 ∧
  t.code.toNat = t.dbc.toNat % 1000000 ∧
  ∀ i < 6, byteAt t.dig.toList i = 0x30 + t.code.toNat / 10 ^ (5 - i) % 10

/-- The 32-bit registers `operand_write` covers: KEYLEN, TIME_HI, TIME_LO, CTR_HI, CTR_LO and KEY_W0 to KEY_W31
(R132). -/
def FrozenOffset (off : Offset) : Prop :=
  off.toNat ∈ [0x010, 0x018, 0x01C, 0x020, 0x024] ∨ (0x100 ≤ off.toNat ∧ off.toNat ≤ 0x17C ∧ off.toNat % 4 = 0)

/-- The commands that become pending (R130, R135): opcodes 0x1 to 0x8. -/
def Pends (i : Instr) : Prop := i ∈ [.tstep, .encode, .hmac, .trunc, .hotp, .totp, .keyclr, .zeroize]

/-- The commands that use the key (R131): HMAC, HOTP, TOTP. -/
def Keyed (i : Instr) : Prop := i ∈ [.hmac, .hotp, .totp]

/-- Each command of a list written to CMD and completed before the next (R84). -/
def oneByOne (is : List Instr) : List Event := is.flatMap (fun i => [wrCmd (encode i), .complete])

/-- The next step is a completion of the opcode `op` (R135): asked for by the order of steps, or the only step left. -/
def CompletesNext (op : Op) (s : State) : Prop :=
  s.busy = true ∧ s.inReset = false ∧ s.pendOp = op ∧ (s.events = [] ∨ ∃ rest, s.events = .complete :: rest)

/-- The next step puts the core in its reset state (R271): an assertion of `rst_n`, or SRESET. -/
def ResetsNext (s : State) : Prop :=
  (∃ rest, s.events = .assertReset :: rest) ∨ (∃ rest, s.events = wrCmd 0x0000000F#32 :: rest)

/-- The next step is an idle host write to one of these offsets (R132). -/
def WritesNext (offs : List Offset) (s : State) : Prop :=
  s.busy = false ∧ ∃ off v rest, off ∈ offs ∧ s.events = wr off v :: rest

/-- `s` and `u` agree on the registers the command `i` reads (R103, R180). -/
def ReadsAgree (i : Instr) (s u : State) : Prop :=
  match i with
  | .tstep => s.timeHi = u.timeHi ∧ s.timeLo = u.timeLo
  | .encode => s.ctrHi = u.ctrHi ∧ s.ctrLo = u.ctrLo
  | .hmac => keyOf s = keyOf u ∧ s.cblk = u.cblk ∧ s.pendAcl = u.pendAcl
  | .trunc => s.mac = u.mac
  | .hotp => s.ctrHi = u.ctrHi ∧ s.ctrLo = u.ctrLo ∧ keyOf s = keyOf u ∧ s.pendAcl = u.pendAcl
  | .totp => s.timeHi = u.timeHi ∧ s.timeLo = u.timeLo ∧ keyOf s = keyOf u ∧ s.pendAcl = u.pendAcl
  | .keyclr | .zeroize => True
  | .nop | .sreset | .reserved9 | .reservedA | .reservedB | .reservedC | .reservedD | .reservedE => True

/-- `t` and `v` agree on TRUNC_OFF, DBC, CODE and DIG. -/
def CodesAgree (t v : State) : Prop :=
  t.truncOff = v.truncOff ∧ t.dbc = v.dbc ∧ t.code = v.code ∧ t.dig = v.dig

/-- `t` and `v` agree on the registers the command `i` writes (R103); `acl` is PEND_ACL. -/
def WritesAgree (acl : Bool) (i : Instr) (t v : State) : Prop :=
  match i with
  | .tstep => t.ctrHi = v.ctrHi ∧ t.ctrLo = v.ctrLo
  | .encode => t.cblk = v.cblk
  | .hmac => t.mac = v.mac ∧ (acl = true → t.key = v.key ∧ t.keylen = v.keylen)
  | .trunc => CodesAgree t v
  | .hotp => t.cblk = v.cblk ∧ t.mac = v.mac ∧ CodesAgree t v ∧ (acl = true → t.key = v.key ∧ t.keylen = v.keylen)
  | .totp =>
    t.ctrHi = v.ctrHi ∧ t.ctrLo = v.ctrLo ∧ t.cblk = v.cblk ∧ t.mac = v.mac ∧ CodesAgree t v ∧
      (acl = true → t.key = v.key ∧ t.keylen = v.keylen)
  | .keyclr => t.key = v.key ∧ t.keylen = v.keylen
  | .zeroize =>
    t.key = v.key ∧ t.keylen = v.keylen ∧ t.timeHi = v.timeHi ∧ t.timeLo = v.timeLo ∧ t.ctrHi = v.ctrHi ∧
      t.ctrLo = v.ctrLo ∧ t.cblk = v.cblk ∧ t.mac = v.mac ∧ CodesAgree t v
  | .nop | .sreset | .reserved9 | .reservedA | .reservedB | .reservedC | .reservedD | .reservedE => True

/-- The offsets whose read value the completion of `i` may change (R103), STATUS among them; KEYLEN only where the
command clears the key. -/
def writtenOffsets (acl : Bool) (i : Instr) : List Nat :=
  let keylen := if acl then [0x010] else []
  let codes := [0x044, 0x048, 0x04C, 0x050, 0x054]
  let macs := [0x030, 0x034, 0x038, 0x03C, 0x040]
  0x008 ::
    match i with
    | .tstep => [0x020, 0x024]
    | .encode => [0x028, 0x02C]
    | .hmac => macs ++ keylen
    | .trunc => codes
    | .hotp => [0x028, 0x02C] ++ macs ++ codes ++ keylen
    | .totp => [0x020, 0x024, 0x028, 0x02C] ++ macs ++ codes ++ keylen
    | .keyclr => [0x010]
    | .zeroize => [0x010, 0x018, 0x01C, 0x020, 0x024, 0x028, 0x02C] ++ macs ++ codes
    | .nop | .sreset | .reserved9 | .reservedA | .reservedB | .reservedC | .reservedD | .reservedE => []

end Sys2Proof.Claims

open Sys2Proof.Claims

/-! ### Encoding -/

/-- R105: the words of the opcode map, written out. -/
def Obligations.OpcodeMapWordsDecode : Prop :=
  decode 0b00000000000000000000000000000000#32 = .ok .nop ∧
  decode 0b00000000000000000000000000000001#32 = .ok .tstep ∧
  decode 0b00000000000000000000000000000010#32 = .ok .encode ∧
  decode 0b00000000000000000000000000000011#32 = .ok .hmac ∧
  decode 0b00000000000000000000000000000100#32 = .ok .trunc ∧
  decode 0b00000000000000000000000000000101#32 = .ok .hotp ∧
  decode 0b00000000000000000000000000000110#32 = .ok .totp ∧
  decode 0b00000000000000000000000000000111#32 = .ok .keyclr ∧
  decode 0b00000000000000000000000000001000#32 = .ok .zeroize ∧
  decode 0b00000000000000000000000000001110#32 = .ok .reservedE ∧
  decode 0b00000000000000000000000000001111#32 = .ok .sreset

/-- R105, R110: a word decodes to a row exactly when it is the row's one 32-bit word, `zext_32(OP)`; so decode of encode
of `i` is `i`, for every row, and no other word decodes to `i`. -/
def Obligations.DecodeAndEncodeAgreeBothWays : Prop :=
  ∀ (w : Word) (i : Instr), decode w = .ok i ↔ w = encode i

/-- R109: decoding is total, a word with RSV ≠ 0 is illegal whatever its OP, and exactly ten of the 2^32 words decode to
a command of R105. The reserved opcodes, which the rule calls Illegal, decode to rows of their own (log entry 8). -/
def Obligations.ExactlyTenWordsAreCommands : Prop :=
  (∀ w : Word, w.toNat / 16 ≠ 0 → ∃ e, decode w = .error e) ∧
  (∀ w : Word, w.toNat / 16 = 0 → decode w = .ok (instrOfOp (BitVec.ofNat 4 w.toNat))) ∧
  ∃ cmds : List Word, cmds.length = 10 ∧ cmds.Nodup ∧
    ∀ w : Word, w ∈ cmds ↔ ∃ i, decode w = .ok i ∧ i.isCommand = true

/-- R50: the mapped offsets are exactly those of the register map, one for each register. -/
def Obligations.RegisterMapReadsBothWays : Prop :=
  ∀ (off : Offset) (r : Reg), regAt off = some r ↔ off = Reg.offset r

/-! ### The slave port -/

/-- R242: a read or a write gets SLVERR exactly when its size is not 4, its offset is not a multiple of 4, or its offset
is unmapped (0x014, 0x058 to 0x0FC, 0x180 to 0xFFC); it then changes nothing but the response. -/
def Obligations.BusErrorsAreSizeAlignmentMapping : Prop :=
  ∀ (s : State) (a : Access), s.inReset = false →
    let bad := a.size ≠ 4 ∨ a.off.toNat % 4 ≠ 0 ∨ a.off.toNat = 0x014 ∨
      (0x058 ≤ a.off.toNat ∧ a.off.toNat ≤ 0x0FC) ∨ (0x180 ≤ a.off.toNat ∧ a.off.toNat ≤ 0xFFC)
    (bad → step (issue (.access a) s) = .next { s with resp := .slverr, turn := .host }) ∧
    (¬ bad → ∀ t, step (issue (.access a) s) = .next t → t.resp ≠ .slverr)

/-- R70, with R21, R26, R28, R30 to R45: the value each register reads as, at its offset. -/
def Obligations.EveryRegisterReadsAsItsRuleSays : Prop :=
  ∀ s : State,
    memRead s 0x000#12 4 = .data 0x48533101#32 ∧
    memRead s 0x004#12 4 =
      .data (BitVec.ofNat 32 (s.keyAutoclr.toNat * 4 + s.errIe.toNat * 2 + s.doneIe.toNat)) ∧
    memRead s 0x008#12 4 =
      .data (BitVec.ofNat 32 (s.errcode.toNat * 256 + s.err.toNat * 4 + s.done.toNat * 2 + s.busy.toNat)) ∧
    memRead s 0x00C#12 4 = .data 0x00000000#32 ∧
    memRead s 0x010#12 4 = .data (BitVec.ofNat 32 s.keylen.toNat) ∧
    memRead s 0x018#12 4 = .data s.timeHi ∧
    memRead s 0x01C#12 4 = .data s.timeLo ∧
    memRead s 0x020#12 4 = .data s.ctrHi ∧
    memRead s 0x024#12 4 = .data s.ctrLo ∧
    (∀ i < 2, memRead s (BitVec.ofNat 12 (0x028 + 4 * i)) 4 = .data (BitVec.ofNat 32 (beNat s.cblk.toList (4 * i)))) ∧
    (∀ i < 5, memRead s (BitVec.ofNat 12 (0x030 + 4 * i)) 4 = .data (BitVec.ofNat 32 (beNat s.mac.toList (4 * i)))) ∧
    memRead s 0x044#12 4 = .data (BitVec.ofNat 32 s.truncOff.toNat) ∧
    memRead s 0x048#12 4 = .data (BitVec.ofNat 32 s.dbc.toNat) ∧
    memRead s 0x04C#12 4 = .data (BitVec.ofNat 32 s.code.toNat) ∧
    memRead s 0x050#12 4 = .data (BitVec.ofNat 32 (beNat s.dig.toList 0)) ∧
    memRead s 0x054#12 4 =
      .data (BitVec.ofNat 32 (byteAt s.dig.toList 4 * 2 ^ 24 + byteAt s.dig.toList 5 * 2 ^ 16)) ∧
    (∀ i < 32, memRead s (BitVec.ofNat 12 (0x100 + 4 * i)) 4 = .data 0x00000000#32)

/-- R70, R81: a read, of any offset and size, returns what `memRead` says of the state before it, and changes no state of the
core. The response and the turn are the model's own fields (log entries 4 and 5). -/
def Obligations.ReadsHaveNoSideEffect : Prop :=
  ∀ (s : State) (off : Offset) (size : Nat), s.inReset = false →
    step (issue (.access { off := off, size := size, dir := .read }) s) =
      .next { s with resp := memRead s off size, turn := .host }

/-- R26: a write of `v` to CTRL performs `CTRL <- v & 7`, busy or not, PEND_ACL is untouched, and a read gives it back. -/
def Obligations.CtrlWriteKeepsThreeBits : Prop :=
  ∀ (s : State) (v : Word), s.inReset = false →
    ∃ t, step (issue (wr 0x004#12 v) s) = .next t ∧
      t = { s with doneIe := t.doneIe, errIe := t.errIe, keyAutoclr := t.keyAutoclr, resp := .okay, turn := .host } ∧
      memRead t 0x004#12 4 = .data (v &&& 0x00000007#32)

/-- R28: a write of `v` to STATUS clears DONE where bit 1 is 1 and ERR with ERRCODE where bit 2 is 1, busy or not, and
ignores every other bit; a read returns the four fields in their places and changes nothing. -/
def Obligations.StatusWritesClearByOneAndReadsPack : Prop :=
  ∀ (s : State) (v : Word), s.inReset = false →
    step (issue (wr 0x008#12 v) s) = .next { s with
      done := if v.toNat / 2 % 2 = 1 then false else s.done
      err := if v.toNat / 4 % 2 = 1 then false else s.err
      errcode := if v.toNat / 4 % 2 = 1 then 0#4 else s.errcode
      resp := .okay
      turn := .host } ∧
    step (issue (rd 0x008#12) s) = .next { s with
      resp := .data (BitVec.ofNat 32 (s.errcode.toNat * 2 ^ 8 + s.err.toNat * 2 ^ 2 + s.done.toNat * 2 + s.busy.toNat))
      turn := .host }

/-- R71 (3): a write to a read-only register is ignored with an OKAY response. -/
def Obligations.ReadOnlyWritesAreIgnored : Prop :=
  ∀ (s : State) (off : Offset) (v : Word), s.inReset = false →
    (off.toNat = 0x000 ∨ (0x028 ≤ off.toNat ∧ off.toNat ≤ 0x054 ∧ off.toNat % 4 = 0)) →
    step (issue (wr off v) s) = .next { s with resp := .okay, turn := .host }

/-- R31 to R33: an idle write stores KEYLEN (bits 7..0), TIME_HI, TIME_LO, CTR_HI, CTR_LO as written. -/
def Obligations.IdleOperandWritesStore : Prop :=
  ∀ (s : State) (v : Word), s.inReset = false → s.busy = false →
    step (issue (wr 0x010#12 v) s) =
      .next { s with keylen := BitVec.ofNat 8 (v.toNat % 256), resp := .okay, turn := .host } ∧
    step (issue (wr 0x018#12 v) s) = .next { s with timeHi := v, resp := .okay, turn := .host } ∧
    step (issue (wr 0x01C#12 v) s) = .next { s with timeLo := v, resp := .okay, turn := .host } ∧
    step (issue (wr 0x020#12 v) s) = .next { s with ctrHi := v, resp := .okay, turn := .host } ∧
    step (issue (wr 0x024#12 v) s) = .next { s with ctrLo := v, resp := .okay, turn := .host }

/-- R34, R42: an idle write of `v` to KEY_Wi sets KEY[4i..4i+3] to the bytes of `v`, most significant first, and leaves
every other key byte alone. -/
def Obligations.IdleKeyWriteSetsFourBytes : Prop :=
  ∀ (s : State) (i : Nat) (v : Word), s.inReset = false → s.busy = false → i < 32 →
    ∃ t, step (issue (wr (BitVec.ofNat 12 (0x100 + 4 * i)) v) s) = .next t ∧
      t = { s with key := t.key, resp := .okay, turn := .host } ∧
      ∀ j < 128, byteAt t.key.toList j =
        if j / 4 = i then v.toNat / 2 ^ (24 - 8 * (j % 4)) % 256 else byteAt s.key.toList j

/-- R132: a write to an operand register while BUSY = 1 is ignored with an OKAY response and raises BUSY_WRITE; while
BUSY = 0 no error is raised. -/
def Obligations.BusyOperandWritesAreFrozen : Prop :=
  ∀ (s : State) (off : Offset) (v : Word), s.inReset = false → FrozenOffset off →
    (s.busy = true →
      step (issue (wr off v) s) = .next (recorded 0x3#4 { s with resp := .okay, turn := .host })) ∧
    (s.busy = false →
      ∃ t, step (issue (wr off v) s) = .next t ∧ t.resp = .okay ∧ t.err = s.err ∧ t.errcode = s.errcode)

/-! ### Acceptance of a command -/

/-- A host write of a command's word runs that command: the step is `exec` of the decoded command, in the host's turn,
with OKAY as the response. A step moves nothing else: the core has no program counter (R24). The list of steps and the turn
are the model's own (log entries 1 and 4). -/
def Obligations.StepRunsTheDecodedCommand : Prop :=
  ∀ (s : State) (w : Word) (i : Instr), s.inReset = false → i.wellFormed = true → decode w = .ok i →
    step (issue (wrCmd w) s) = exec i { s with resp := .okay, turn := .host }

/-- R135: the core's step runs the command in PEND_OP; it is enabled exactly when BUSY = 1 and `rst_n` is released.
A completion taken when no step is left, and one asked for when it is not enabled, are the model's own (log entries 2 and
3). -/
def Obligations.CompletionStepRunsThePendingCommand : Prop :=
  ∀ (s : State) (i : Instr),
    (s.inReset = false → s.busy = true → s.pendOp = opcode i →
      step (issue .complete s) = exec i { s with turn := .core } ∧
      (s.events = [] → step s = exec i { s with turn := .core })) ∧
    (s.busy = false ∨ s.inReset = true →
      step (issue .complete s) = .next s ∧ (s.events = [] → step s = .next s))

/-- R131: a write of any word `v` to CMD, by the acceptance procedure of the rule, branch by branch in its order. -/
def Obligations.CmdWriteFollowsTheAcceptanceOrder : Prop :=
  ∀ (s : State) (v : Word), s.inReset = false →
    let op := v.toNat % 16
    let rsv := v.toNat / 16
    let u := { s with resp := .okay, turn := .host }
    step (issue (wrCmd v) s) = .next (
      if op = 0xF ∧ rsv = 0 then resetCore u
      else if s.busy = true then recorded 0x3#4 u
      else if rsv ≠ 0 ∨ (0x9 ≤ op ∧ op ≤ 0xE) then recorded 0x1#4 u
      else if op = 0x0 then u
      else if (op = 0x3 ∨ op = 0x5 ∨ op = 0x6) ∧ 128 < s.keylen.toNat then recorded 0x2#4 u
      else { u with pendOp := BitVec.ofNat 4 op, pendAcl := s.keyAutoclr, done := false, busy := true })

/-- R134: from idle, with a legal key length where the command is keyed, each of the eight commands that become pending
is accepted; nothing but PEND_OP, PEND_ACL, DONE and BUSY changes, and ERR does not stop it. -/
def Obligations.AcceptanceStartsTheCommand : Prop :=
  ∀ (s : State) (i : Instr), Pends i → s.turn = .host → s.busy = false → (Keyed i → s.keylen.toNat ≤ 128) →
    exec i s = .next { s with pendOp := opcode i, pendAcl := s.keyAutoclr, done := false, busy := true }

/-- R131, R240: a keyed command written while idle with KEYLEN above 128 raises KEYLEN_RANGE and is not started; the
other commands do not check KEYLEN. -/
def Obligations.LongKeyFailsKeyedCommandsOnly : Prop :=
  ∀ (s : State) (i : Instr), Pends i → s.turn = .host → s.busy = false → 128 < s.keylen.toNat →
    (Keyed i → exec i s = .next (recorded 0x2#4 s)) ∧
    (¬ Keyed i → ∃ t, exec i s = .next t ∧ t.busy = true ∧ t.err = s.err ∧ t.errcode = s.errcode)

/-- R222: NOP has no effect at all while idle, and raises BUSY_WRITE while busy. -/
def Obligations.NopChangesNothingWhileIdle : Prop :=
  ∀ s : State, s.turn = .host →
    (s.busy = false → exec .nop s = .next s) ∧
    (s.busy = true → exec .nop s = .next (recorded 0x3#4 s))

/-- R226, R138: SRESET puts every element of the core into the reset state, busy or not. -/
def Obligations.SresetReachesTheResetState : Prop :=
  ∀ s : State, s.turn = .host → exec .sreset s = .next (resetCore s)

/-- R106: a reserved opcode raises ILLEGAL_CMD while idle and BUSY_WRITE while busy, and changes nothing else. -/
def Obligations.ReservedOpcodesRaiseIllegalCmd : Prop :=
  ∀ (s : State) (i : Instr), i ∈ [.reserved9, .reservedA, .reservedB, .reservedC, .reservedD, .reservedE] →
    s.turn = .host →
    exec i s = .next (recorded (if s.busy = true then 0x3#4 else 0x1#4) s)

/-- R135: a completion of a command that is not pending is no step of the core; the fault it answers is the model's own
(log entry 7). -/
def Obligations.OnlyThePendingCommandCompletes : Prop :=
  ∀ (s : State) (i : Instr), s.turn = .core → s.busy = false ∨ s.pendOp ≠ opcode i →
    exec i s = .fault .completionNotEnabled

/-! ### Completion of each command -/

/-- R151: TSTEP writes CTR with `TIME div 30`, sets DONE, clears BUSY, and changes nothing else. -/
def Obligations.TstepDividesTheTimeByThirty : Prop :=
  ∀ s : State, Pending .tstep s →
    ∃ t, exec .tstep s = .next t ∧ ctrNat t = timeNat s / 30 ∧
      t = { s with ctrHi := t.ctrHi, ctrLo := t.ctrLo, busy := false, done := true }

/-- R153: ENCODE writes CBLK with the counter, most significant byte first, and changes nothing else but BUSY and DONE;
CBLK_W0 then reads CTR_HI and CBLK_W1 reads CTR_LO. -/
def Obligations.EncodeWritesTheCounterBlock : Prop :=
  ∀ s : State, Pending .encode s →
    ∃ t, exec .encode s = .next t ∧ HoldsCounterBlock (ctrNat s) t ∧
      t = { s with cblk := t.cblk, busy := false, done := true } ∧
      memRead t 0x028#12 4 = .data s.ctrHi ∧ memRead t 0x02C#12 4 = .data s.ctrLo

/-- R181: HMAC writes MAC with HMAC-SHA1 of KEY[0..KEYLEN-1] over CBLK, then AutoClear by PEND_ACL, and changes nothing
else but BUSY and DONE. -/
def Obligations.HmacWritesTheTag : Prop :=
  ∀ s : State, Pending .hmac s →
    ∃ t, exec .hmac s = .next t ∧ t.mac = hmacSha1 (keyOf s) s.cblk.toList ∧ AutoCleared s t ∧
      t = { s with mac := t.mac, key := t.key, keylen := t.keylen, busy := false, done := true }

/-- R204: TRUNC writes TRUNC_OFF, DBC, CODE and DIG from MAC and changes nothing else but BUSY and DONE. -/
def Obligations.TruncWritesOffsetValueCodeAndDigits : Prop :=
  ∀ s : State, Pending .trunc s →
    ∃ t, exec .trunc s = .next t ∧ HoldsTruncation s.mac.toList t ∧
      t = { s with truncOff := t.truncOff, dbc := t.dbc, code := t.code, dig := t.dig, busy := false, done := true }

/-- R220: HOTP writes CBLK from CTR, MAC from the key and the new CBLK, and the code from the new MAC, then AutoClear;
CTR and TIME keep their values. -/
def Obligations.HotpRunsEncodeHmacTrunc : Prop :=
  ∀ s : State, Pending .hotp s →
    ∃ t, exec .hotp s = .next t ∧ HoldsCounterBlock (ctrNat s) t ∧
      t.mac = hmacSha1 (keyOf s) t.cblk.toList ∧ HoldsTruncation t.mac.toList t ∧ AutoCleared s t ∧
      t = { s with cblk := t.cblk, mac := t.mac, truncOff := t.truncOff, dbc := t.dbc, code := t.code, dig := t.dig,
                   key := t.key, keylen := t.keylen, busy := false, done := true }

/-- R221: TOTP writes CTR with `TIME div 30` and then does what HOTP does with that counter. -/
def Obligations.TotpRunsTstepEncodeHmacTrunc : Prop :=
  ∀ s : State, Pending .totp s →
    ∃ t, exec .totp s = .next t ∧ ctrNat t = timeNat s / 30 ∧ HoldsCounterBlock (timeNat s / 30) t ∧
      t.mac = hmacSha1 (keyOf s) t.cblk.toList ∧ HoldsTruncation t.mac.toList t ∧ AutoCleared s t ∧
      t = { s with ctrHi := t.ctrHi, ctrLo := t.ctrLo, cblk := t.cblk, mac := t.mac, truncOff := t.truncOff,
                   dbc := t.dbc, code := t.code, dig := t.dig, key := t.key, keylen := t.keylen,
                   busy := false, done := true }

/-- R223: KEYCLR clears the 128 key bytes and KEYLEN, whatever KEYLEN and PEND_ACL are, and changes nothing else but BUSY
and DONE. -/
def Obligations.KeyclrClearsKeyAndLength : Prop :=
  ∀ s : State, Pending .keyclr s →
    exec .keyclr s = .next { s with key := Vector.replicate 128 0x00#8, keylen := 0#8, busy := false, done := true }

/-- R225: ZEROIZE gives every data register its reset value and keeps CTRL, ERR and ERRCODE. -/
def Obligations.ZeroizeClearsEveryDataRegister : Prop :=
  ∀ s : State, Pending .zeroize s →
    exec .zeroize s = .next { resetCore s with
      doneIe := s.doneIe, errIe := s.errIe, keyAutoclr := s.keyAutoclr, err := s.err, errcode := s.errcode,
      pendOp := s.pendOp, pendAcl := s.pendAcl, busy := false, done := true }

/-- R103: outside the registers the table lists for the command (and STATUS), every offset of the window reads after the
completion as it read before. -/
def Obligations.CompletionKeepsEveryOtherOffset : Prop :=
  ∀ (s : State) (i : Instr), Pends i → Pending i s →
    ∃ t, exec i s = .next t ∧
      ∀ off : Offset, off.toNat ∉ writtenOffsets s.pendAcl i → ∀ size, memRead t off size = memRead s off size

/-- R139, R103: two completions of the same command from states that agree on the registers it reads leave equal values
in the registers it writes. A key byte at an index of KEYLEN or above is not among those it reads (R34, R180). -/
def Obligations.ResultsDependOnTheOperandsAlone : Prop :=
  ∀ (s u : State) (i : Instr), Pends i → Pending i s → Pending i u → ReadsAgree i s u →
    ∃ t v, exec i s = .next t ∧ exec i u = .next v ∧ WritesAgree s.pendAcl i t v

/-! ### The functions of the three units -/

/-- R150: `tstep` is unsigned floor division by 30; it is bounded by 0x0888888888888888, monotone, and equal on two times
exactly when they lie in the same 30-second window. -/
def Obligations.TimeStepIsFloorDivision : Prop :=
  ∀ t u : Quad,
    (tstep t).toNat = t.toNat / 30 ∧
    (tstep t).toNat ≤ 0x0888888888888888 ∧
    (t.toNat ≤ u.toNat → (tstep t).toNat ≤ (tstep u).toNat) ∧
    (tstep t = tstep u ↔ ∃ k, 30 * k ≤ t.toNat ∧ t.toNat ≤ 30 * k + 29 ∧ 30 * k ≤ u.toNat ∧ u.toNat ≤ 30 * k + 29)

/-- R152: byte `i` of `bytes64(c)` is `c[63-8i : 56-8i]`, on the full 64-bit range, and `be64` is its inverse. -/
def Obligations.CounterEncoderIsInvertible : Prop :=
  (∀ (c : Quad) (i : Nat), i < 8 → byteAt (bytes64 c).toList i = c.toNat / 2 ^ (56 - 8 * i) % 256) ∧
  (∀ c : Quad, be64 (bytes64 c) = c) ∧
  ∀ b : Vector Byte 8, bytes64 (be64 b) = b

/-- R171: the padding is the message, 0x80, the smallest number of zero bytes that reaches 56 mod 64, and the bit length
in eight big-endian bytes; its length is a multiple of 64. -/
def Obligations.PaddingReachesABlockBoundary : Prop :=
  ∀ m : List Byte, ∃ k, pad m = m ++ [0x80#8] ++ List.replicate k 0x00#8 ++
      (List.range 8).map (fun i => BitVec.ofNat 8 (8 * m.length / 2 ^ (56 - 8 * i))) ∧
    (m.length + 1 + k) % 64 = 56 ∧ (∀ j < k, (m.length + 1 + j) % 64 ≠ 56) ∧ (pad m).length % 64 = 0

/-- R174: the schedule of a block has eighty words, the first sixteen the block's own, the others by the recurrence with
ROTL 1. -/
def Obligations.ScheduleFollowsItsRecurrence : Prop :=
  ∀ block : List Byte,
    let w := fun t => (schedule block).getD t 0#32
    (schedule block).length = 80 ∧
    (∀ t < 16, w t = BitVec.ofNat 32 (beNat block (4 * t))) ∧
    ∀ t, 16 ≤ t → t < 80 → w t = (w (t - 3) ^^^ w (t - 8) ^^^ w (t - 14) ^^^ w (t - 16)).rotateLeft 1

/-- R175, R176: compression of a block is eighty rounds on (a, b, c, d, e), each by the rule's own formula, then the
addition of the old state. -/
def Obligations.CompressionRunsEightyRounds : Prop :=
  ∀ (h : Digest) (block : List Byte), ∃ a b c d e : Nat → Word,
    a 0 = h.h0 ∧ b 0 = h.h1 ∧ c 0 = h.h2 ∧ d 0 = h.h3 ∧ e 0 = h.h4 ∧
    (∀ t < 80,
      a (t + 1) = (a t).rotateLeft 5 +
        (if t ≤ 19 then (b t &&& c t) ||| (~~~ b t &&& d t)
         else if 40 ≤ t ∧ t ≤ 59 then (b t &&& c t) ||| (b t &&& d t) ||| (c t &&& d t)
         else b t ^^^ c t ^^^ d t) + e t +
        (if t ≤ 19 then 0x5A827999#32 else if t ≤ 39 then 0x6ED9EBA1#32 else if t ≤ 59 then 0x8F1BBCDC#32
         else 0xCA62C1D6#32) + (schedule block).getD t 0#32 ∧
      b (t + 1) = a t ∧ c (t + 1) = (b t).rotateLeft 30 ∧ d (t + 1) = c t ∧ e (t + 1) = d t) ∧
    compress h block = ⟨h.h0 + a 80, h.h1 + b 80, h.h2 + c 80, h.h3 + d 80, h.h4 + e 80⟩

/-- R173, R177: SHA1(M) compresses the 64-byte blocks of pad(M) (R172) in order from the initial value and outputs the five
words, most significant byte first; the rule's two examples come out. -/
def Obligations.Sha1CompressesThePaddedBlocks : Prop :=
  ∀ m : List Byte,
    let blocks := (List.range ((pad m).length / 64)).map (fun i => ((pad m).drop (64 * i)).take 64)
    let h := blocks.foldl compress ⟨0x67452301#32, 0xEFCDAB89#32, 0x98BADCFE#32, 0x10325476#32, 0xC3D2E1F0#32⟩
    (∀ b ∈ blocks, b.length = 64) ∧ blocks.flatten = pad m ∧
    (∀ i < 20, byteAt (sha1 m).toList i =
      ([h.h0, h.h1, h.h2, h.h3, h.h4].getD (i / 4) 0#32).toNat / 2 ^ (24 - 8 * (i % 4)) % 256) ∧
    (m = [] → (List.range 5).map (fun i => beNat (sha1 m).toList (4 * i)) =
      [0xda39a3ee, 0x5e6b4b0d, 0x3255bfef, 0x95601890, 0xafd80709]) ∧
    (m = [0x61#8, 0x62#8, 0x63#8] → (List.range 5).map (fun i => beNat (sha1 m).toList (4 * i)) =
      [0xa9993e36, 0x4706816a, 0xba3e2571, 0x7850c26c, 0x9cd0d89d])

/-- R179, R180: HMAC-SHA1 over the key block K0, which is the key (hashed first above 64 bytes) filled to exactly 64 bytes
with zeros; the inner message has 64 + len(m) bytes and the outer 84. -/
def Obligations.HmacIsTwoHashesOverTheKeyBlock : Prop :=
  ∀ k m : List Byte, ∃ k0 : List Byte, k0.length = 64 ∧
    (∀ i < 64, byteAt k0 i =
      if 64 < k.length then (if i < 20 then byteAt (sha1 k).toList i else 0) else byteAt k i) ∧
    hmacSha1 k m =
      sha1 (k0.map (fun b => b ^^^ 0x5C#8) ++ (sha1 (k0.map (fun b => b ^^^ 0x36#8) ++ m)).toList)

/-- R183, which the spec marks as derived from R180: a key longer than 64 bytes gives the tag of its own SHA-1 digest used as
the key. -/
def Obligations.HmacOfALongKeyIsHmacOfItsHash : Prop :=
  ∀ k m : List Byte, 64 < k.length → hmacSha1 k m = hmacSha1 (sha1 k).toList m

/-- R184, which the spec marks as derived from R180: a key and the same key with zero bytes appended, up to 64 bytes in all,
give the same tag. -/
def Obligations.HmacIgnoresTrailingZeroKeyBytes : Prop :=
  ∀ (k m : List Byte) (j : Nat), k.length + j ≤ 64 → hmacSha1 (k ++ List.replicate j 0x00#8) m = hmacSha1 k m

/-- R200, R201: the offset is the low four bits of MAC[19], whatever its high four are; the extracted value is
`be32(MAC[o..o+3])` with the top bit masked, and MAC[19] is never one of the bytes read. -/
def Obligations.ExtractionMasksTheTopBit : Prop :=
  ∀ mac : Vector Byte 20,
    (truncOffset mac).toNat = byteAt mac.toList 19 % 16 ∧
    (∀ o : BitVec 4, (extractDbc mac o).toNat =
      byteAt mac.toList o.toNat % 128 * 2 ^ 24 + byteAt mac.toList (o.toNat + 1) * 2 ^ 16 +
        byteAt mac.toList (o.toNat + 2) * 2 ^ 8 + byteAt mac.toList (o.toNat + 3)) ∧
    ∀ (o : BitVec 4) (b : Byte), extractDbc (mac.set 19 b) o = extractDbc mac o

/-- R202, R203: a code is the value mod 10^6, and its six characters are the rule's ASCII digits; read as a decimal number,
the first digit the most significant, they give the code back. -/
def Obligations.DigitsSpellTheCode : Prop :=
  ∀ x : BitVec 31,
    let c := reduceCode x
    let d := (decimal6 c).toList
    c.toNat = x.toNat % 1000000 ∧ d.length = 6 ∧ (∀ i < 6, byteAt d i = 0x30 + c.toNat / 10 ^ (5 - i) % 10) ∧
    (∀ b ∈ d, 0x30 ≤ b.toNat ∧ b.toNat ≤ 0x39) ∧
    d.foldl (fun n b => 10 * n + (b.toNat - 0x30)) 0 = c.toNat

/-- The two RFC 4226 values the source states (spec/95 S1, S2): key "12345678901234567890" with counter 0 gives 755224 and
with counter 1 gives 287082, through HOTP's completion step. -/
def Obligations.HotpReproducesTheSourcesTwoCodes : Prop :=
  let krfc : List Byte := [0x31#8, 0x32#8, 0x33#8, 0x34#8, 0x35#8, 0x36#8, 0x37#8, 0x38#8, 0x39#8, 0x30#8, 0x31#8, 0x32#8,
    0x33#8, 0x34#8, 0x35#8, 0x36#8, 0x37#8, 0x38#8, 0x39#8, 0x30#8]
  ∀ s : State, Pending .hotp s → keyOf s = krfc →
    ∃ t, exec .hotp s = .next t ∧ (ctrNat s = 0 → t.code = 755224#20) ∧ (ctrNat s = 1 → t.code = 287082#20)

/-! ### The whole machine -/

/-- R271: the reset state, element by element, and what a read of it returns. -/
def Obligations.ResetLeavesTheTabledValues : Prop :=
  State.reset.Inv ∧ irq State.reset = false ∧
  State.reset.doneIe = false ∧ State.reset.errIe = false ∧ State.reset.keyAutoclr = true ∧
  State.reset.busy = false ∧ State.reset.done = false ∧ State.reset.err = false ∧ State.reset.errcode = 0#4 ∧
  State.reset.keylen = 0#8 ∧ State.reset.key.toList = List.replicate 128 0x00#8 ∧
  State.reset.timeHi = 0#32 ∧ State.reset.timeLo = 0#32 ∧ State.reset.ctrHi = 0#32 ∧ State.reset.ctrLo = 0#32 ∧
  State.reset.cblk.toList = List.replicate 8 0x00#8 ∧ State.reset.mac.toList = List.replicate 20 0x00#8 ∧
  State.reset.truncOff = 0#4 ∧ State.reset.dbc = 0#31 ∧ State.reset.code = 0#20 ∧
  State.reset.dig.toList = List.replicate 6 0x00#8 ∧ State.reset.pendOp = 0#4 ∧ State.reset.pendAcl = false ∧
  memRead State.reset 0x000#12 4 = .data 0x48533101#32 ∧ memRead State.reset 0x004#12 4 = .data 0x00000004#32

/-- R271, R272: an assertion of `rst_n` puts the core in its reset state from any state and aborts a pending command;
while it is asserted no completion is taken and no access is served (the refusal is the model's own, log entry 6); its release
leaves the reset state, idle. -/
def Obligations.ResetIsHeldUntilReleased : Prop :=
  (∀ s : State, ∃ t, step (issue .assertReset s) = .next t ∧ t.isHeldReset ∧ t.events = s.events) ∧
  ∀ s : State, s.isHeldReset →
    step (issue .complete s) = .next s ∧
    (∀ a, step (issue (.access a) s) = .refused .accessDuringReset) ∧
    step (issue .releaseReset s) = .next { State.reset with events := s.events, resp := s.resp, turn := s.turn }

/-- R29, which the spec marks as derived from R27, R28 and R241: ERRCODE ≠ 0 holds exactly when ERR = 1, after reset and
after every step. -/
def Obligations.ErrcodeIsSetExactlyWithErr : Prop :=
  (State.reset.errcode ≠ 0#4 ↔ State.reset.err = true) ∧
  ∀ s t : State, (s.errcode ≠ 0#4 ↔ s.err = true) → step s = .next t → (t.errcode ≠ 0#4 ↔ t.err = true)

/-- R47, which the spec marks as derived from R37 to R40, R204 and R225: DIG is all 0x00 or `decimal6(CODE)`, and CODE is DBC
mod 10^6, after reset and after every step. -/
def Obligations.DigitsCodeAndValueStayInStep : Prop :=
  let agree := fun s : State =>
    ((∀ i < 6, byteAt s.dig.toList i = 0) ∨
      ∀ i < 6, byteAt s.dig.toList i = 0x30 + s.code.toNat / 10 ^ (5 - i) % 10) ∧
    s.code.toNat = s.dbc.toNat % 10 ^ 6
  agree State.reset ∧ ∀ s t : State, agree s → step s = .next t → agree t

/-- Every step keeps the invariant of the machine (R29, R47, R131, R134, R135, R240, R271 in one), from every state that
meets it. -/
def Obligations.EveryStepKeepsTheInvariant : Prop :=
  ∀ s t : State, s.Inv → step s = .next t → t.Inv

/-- R137: nothing stops the machine. From every state that meets the invariant a step answers a next state, unless the
platform breaks its duty and issues an access while `rst_n` is asserted, and then the step is refused by that name (log
entry 6). -/
def Obligations.NoReachableStepFaults : Prop :=
  ∀ s : State, s.Inv →
    (¬ (s.inReset = true ∧ s.accessNext) → s.steps) ∧
    (s.inReset = true → s.accessNext → step s = .refused .accessDuringReset)

/-- R133, R83, R281: while a command is pending, no host access but SRESET changes an operand, a result, PEND_OP,
PEND_ACL or BUSY; CTRL, ERR, ERRCODE and DONE are all it can touch. -/
def Obligations.PendingCommandFreezesTheData : Prop :=
  ∀ (s : State) (a : Access), s.inReset = false → s.busy = true →
    ¬ (a.off = 0x00C#12 ∧ a.size = 4 ∧ a.dir = .write 0x0000000F#32) →
    ∃ t, step (issue (.access a) s) = .next t ∧
      t = { s with
        doneIe := t.doneIe, errIe := t.errIe, keyAutoclr := t.keyAutoclr,
        done := t.done, err := t.err, errcode := t.errcode, resp := t.resp, turn := .host }

/-- R32 to R40: which steps can change each operand and result register at all. -/
def Obligations.OnlyNamedStepsWriteEachRegister : Prop :=
  ∀ s t : State, step s = .next t → ¬ ResetsNext s →
    (t.cblk ≠ s.cblk → ∃ op ∈ [0x2#4, 0x5#4, 0x6#4, 0x8#4], CompletesNext op s) ∧
    (t.mac ≠ s.mac → ∃ op ∈ [0x3#4, 0x5#4, 0x6#4, 0x8#4], CompletesNext op s) ∧
    (¬ CodesAgree t s → ∃ op ∈ [0x4#4, 0x5#4, 0x6#4, 0x8#4], CompletesNext op s) ∧
    (timeNat t ≠ timeNat s → WritesNext [0x018#12, 0x01C#12] s ∨ CompletesNext 0x8#4 s) ∧
    (ctrNat t ≠ ctrNat s →
      WritesNext [0x020#12, 0x024#12] s ∨ ∃ op ∈ [0x1#4, 0x6#4, 0x8#4], CompletesNext op s) ∧
    (t.keylen ≠ s.keylen →
      WritesNext [0x010#12] s ∨ (∃ op ∈ [0x7#4, 0x8#4], CompletesNext op s) ∨
      (s.pendAcl = true ∧ ∃ op ∈ [0x3#4, 0x5#4, 0x6#4], CompletesNext op s)) ∧
    (t.key ≠ s.key →
      WritesNext ((List.range 32).map fun i => BitVec.ofNat 12 (0x100 + 4 * i)) s ∨
      (∃ op ∈ [0x7#4, 0x8#4], CompletesNext op s) ∨
      (s.pendAcl = true ∧ ∃ op ∈ [0x3#4, 0x5#4, 0x6#4], CompletesNext op s))

/-- R34, R250: the key cannot be read back. Two states that differ only in KEY answer every host access alike: the same
response, and states that again differ at most in KEY. -/
def Obligations.HostAccessesNeverRevealTheKey : Prop :=
  ∀ (s t : State) (k : Vector Byte 128) (a : Access), step (issue (.access a) s) = .next t →
    ∃ k', step (issue (.access a) { s with key := k }) = .next { t with key := k' }

/-- R49, R247, R272: `irq` is asserted exactly while an enabled STATUS bit is set, so it is 0 after reset; a write that
clears the bits or the enables drops it in the same step. -/
def Obligations.IrqFollowsStatusAndEnables : Prop :=
  irq State.reset = false ∧
  (∀ s : State, irq s = true ↔ (s.done = true ∧ s.doneIe = true) ∨ (s.err = true ∧ s.errIe = true)) ∧
  ∀ s : State, s.inReset = false → ∃ t u,
    step (issue (wr 0x008#12 0x00000006#32) s) = .next t ∧ irq t = false ∧
    step (issue (wr 0x004#12 0x00000000#32) s) = .next u ∧ irq u = false ∧ u.done = s.done ∧ u.err = s.err

/-- R135, R3: weak fairness. From every state that meets the invariant with a command pending, whatever steps are still
to come, the command ends within one step more than their number: it completes, or a reset aborts it. The list of steps, and
the completion taken when it is empty, are the model's own (log entries 1 and 2). -/
def Obligations.PendingCommandEnds : Prop :=
  ∀ s : State, s.Inv → s.busy = true →
    ∃ k t, k ≤ s.events.length + 1 ∧ core.run k s = .next t ∧ t.busy = false ∧
      (t.done = true ∨ t = { State.reset with inReset := t.inReset, events := t.events, resp := t.resp, turn := t.turn })

/-- R227: from idle, HOTP leaves the state that ENCODE, HMAC, TRUNC one by one leave, and TOTP the state that TSTEP,
ENCODE, HMAC, TRUNC leave; only PEND_OP differs, which no rule reads while BUSY = 0 and which the model keeps (log entry
10). Between the separate commands BUSY = 0 and DONE = 1 are seen; the composite has one busy period. -/
def Obligations.CompositeCommandsEqualTheirChains : Prop :=
  ∀ s : State, s.inReset = false → s.busy = false → s.keylen.toNat ≤ 128 → s.events = [] →
    (∃ p t u, core.run 1 { s with events := oneByOne [.hotp] } = .next p ∧ p.busy = true ∧
      core.run 2 { s with events := oneByOne [.hotp] } = .next t ∧
      core.run 6 { s with events := oneByOne [.encode, .hmac, .trunc] } = .next u ∧
      t = { u with pendOp := 0x5#4 } ∧
      ∀ n ∈ [2, 4], ∃ v, core.run n { s with events := oneByOne [.encode, .hmac, .trunc] } = .next v ∧
        v.busy = false ∧ v.done = true) ∧
    (∃ p t u, core.run 1 { s with events := oneByOne [.totp] } = .next p ∧ p.busy = true ∧
      core.run 2 { s with events := oneByOne [.totp] } = .next t ∧
      core.run 8 { s with events := oneByOne [.tstep, .encode, .hmac, .trunc] } = .next u ∧
      t = { u with pendOp := 0x6#4 } ∧
      ∀ n ∈ [2, 4, 6], ∃ v, core.run n { s with events := oneByOne [.tstep, .encode, .hmac, .trunc] } = .next v ∧
        v.busy = false ∧ v.done = true)

/-- R3, R75, R102: CORE_BASE is a multiple of 4096, and an access at a bus address reaches the slave port exactly when the
address lies in the window, at the offset `address - CORE_BASE`. -/
def Obligations.PlatformRoutesTheWindowOnly : Prop :=
  Config.coreBase % 4096 = 0 ∧
  ∀ (addr size : Nat) (dir : Dir) (a : Access),
    platformRoute addr size dir = some a ↔
      addr = Config.coreBase + a.off.toNat ∧ a.size = size ∧ a.dir = dir

/-! ### The host's assembly -/

/-- R112: `ldctr` and `ldtime` on an idle core leave the 64-bit value in the pair, and nothing else changes. -/
def Obligations.LdctrAndLdtimeLoadThePair : Prop :=
  ∀ (s : State) (h : HostCtx) (c : Quad), s.inReset = false → s.busy = false → h.pos = 0 →
    (∃ h' t, hostRun (asmLdctr c) [.host, .host] h s = .next (h', t) ∧ ctrNat t = c.toNat ∧
      t = { s with ctrHi := t.ctrHi, ctrLo := t.ctrLo, resp := .okay, turn := .host }) ∧
    (∃ h' t, hostRun (asmLdtime c) [.host, .host] h s = .next (h', t) ∧ timeNat t = c.toNat ∧
      t = { s with timeHi := t.timeHi, timeLo := t.timeLo, resp := .okay, turn := .host })

/-- R112, R42: `ldkey` of at most 128 bytes on an idle core leaves exactly those bytes as the key of R180, and changes
nothing but KEY and KEYLEN. -/
def Obligations.LdkeyLoadsTheKey : Prop :=
  ∀ (s : State) (h : HostCtx) (b : List Byte), s.inReset = false → s.busy = false → h.pos = 0 → ldkeyOk b = true →
    ∃ h' t, hostRun (asmLdkey b) (List.replicate (asmLdkey b).length .host) h s = .next (h', t) ∧ keyOf t = b ∧
      t = { s with key := t.key, keylen := t.keylen, resp := .okay, turn := .host }

/-- R112: `wait` polls any number of times while the command is pending, and ends at the first poll after its completion
step, with BUSY = 0 and DONE = 1 read. -/
def Obligations.WaitEndsAfterTheCompletion : Prop :=
  ∀ (s : State) (h : HostCtx) (n : Nat), s.Inv → s.busy = true → h.pos = 0 →
    ∃ h' t, hostRun (asmWait 0) (List.replicate (2 * n) .host ++ [.core, .host, .host]) h s = .next (h', t) ∧
      h'.pos = 2 ∧ t.busy = false ∧ t.done = true ∧ h'.last.toNat % 4 = 2
end

