-- ==== Sys2Proof/Laws/Bytes.lean ====
section
/-! SUPPORT. The byte-order operations as numbers, reads after writes of a window word, and the arithmetic of the Counter
Encoder and the Formatter, each said once. -/

namespace Sys2Proof.Machine

/-- Joining two words is base 2^32 (R46). -/
theorem append_word_toNat (hi lo : Word) : (hi ++ lo : Quad).toNat = hi.toNat * 2 ^ 32 + lo.toNat := by
  have := lo.isLt
  rw [BitVec.toNat_append, Nat.shiftLeft_eq, Nat.mul_comm, ← Nat.two_pow_add_eq_or_of_lt (by omega)]

theorem time_toNat (s : State) : (time s).toNat = s.timeHi.toNat * 2 ^ 32 + s.timeLo.toNat := append_word_toNat _ _

theorem ctr_toNat (s : State) : (ctr s).toNat = s.ctrHi.toNat * 2 ^ 32 + s.ctrLo.toNat := append_word_toNat _ _

/-- A counter written and read back (R46). -/
@[simp] theorem ctr_setCtr (c : Quad) (s : State) : ctr (setCtr c s) = c := by
  apply BitVec.eq_of_toNat_eq
  have := c.isLt
  simp only [ctr_toNat, setCtr, BitVec.extractLsb'_toNat, Nat.shiftRight_eq_div_pow]
  omega

/-- `be32` is base 256, the first byte the most significant (R7). -/
theorem be32_toNat (a b c d : Byte) :
    (be32 a b c d).toNat = a.toNat * 2 ^ 24 + b.toNat * 2 ^ 16 + c.toNat * 2 ^ 8 + d.toNat := by
  have := a.isLt
  have := b.isLt
  have := c.isLt
  have := d.isLt
  simp only [be32, BitVec.toNat_append, Nat.shiftLeft_eq]
  rw [Nat.mul_comm a.toNat, Nat.mul_comm _ (2 ^ 8), Nat.mul_comm _ (2 ^ 8),
    ← Nat.two_pow_add_eq_or_of_lt (by omega), ← Nat.two_pow_add_eq_or_of_lt (by omega),
    ← Nat.two_pow_add_eq_or_of_lt (by omega)]
  omega

theorem wordByte_toNat (w : Word) (i : Nat) : (wordByte w i).toNat = w.toNat / 2 ^ (24 - 8 * i) % 256 := by
  simp [wordByte, Nat.shiftRight_eq_div_pow]

theorem quadByte_toNat (c : Quad) (i : Nat) : (quadByte c i).toNat = c.toNat / 2 ^ (56 - 8 * i) % 256 := by
  simp [quadByte, Nat.shiftRight_eq_div_pow]

theorem bytes64_getElem (c : Quad) (i : Nat) (h : i < 8) : (bytes64 c)[i] = quadByte c i := by
  interval_cases i <;> rfl

/-- The four bytes of a word, joined again (R41). -/
theorem be32_wordByte (w : Word) : be32 (wordByte w 0) (wordByte w 1) (wordByte w 2) (wordByte w 3) = w := by
  apply BitVec.eq_of_toNat_eq
  have := w.isLt
  simp only [be32_toNat, wordByte_toNat]
  omega

/-- Every byte after a write of window word `i` (R41): the four bytes of the word, and every other byte as before. -/
theorem setWindowWord_getElem {n : Nat} (a : Vector Byte n) (i : Nat) (w : Word) (h : 4 * i + 3 < n) (j : Nat)
    (hj : j < n) : (setWindowWord a i w h)[j] = if j / 4 = i then wordByte w (j % 4) else a[j] := by
  simp only [setWindowWord, Vector.getElem_set]
  split_ifs <;> first | omega | rfl | (congr 1; omega)

/-- A window word read after it was written (R41, R42). -/
theorem windowWord_setWindowWord {n : Nat} (a : Vector Byte n) (i : Nat) (w : Word) (h : 4 * i + 3 < n) :
    windowWord (setWindowWord a i w h) i h = w := by
  simp only [windowWord, setWindowWord_getElem]
  rw [if_pos (by omega), if_pos (by omega), if_pos (by omega), if_pos (by omega)]
  rw [show 4 * i % 4 = 0 by omega, show (4 * i + 1) % 4 = 1 by omega, show (4 * i + 2) % 4 = 2 by omega,
    show (4 * i + 3) % 4 = 3 by omega, be32_wordByte]

/-- Another window word is left alone (R41). -/
theorem windowWord_setWindowWord_ne {n : Nat} (a : Vector Byte n) (i j : Nat) (w : Word) (h : 4 * i + 3 < n)
    (hj : 4 * j + 3 < n) (hne : i ≠ j) : windowWord (setWindowWord a i w h) j hj = windowWord a j hj := by
  simp only [windowWord, setWindowWord_getElem]
  rw [if_neg (by omega), if_neg (by omega), if_neg (by omega), if_neg (by omega)]

/-- `ROTL` is the rotation of the library (R7). -/
theorem rotl_eq_rotateLeft (x : Word) (n : Nat) (h : n < 32) : rotl x n = x.rotateLeft n := by
  simp [rotl, BitVec.rotateLeft, BitVec.rotateLeftAux, Nat.mod_eq_of_lt h]

theorem bitWord_toNat (b : Bool) : (bitWord b).toNat = b.toNat := by cases b <;> rfl

/-- The quotient fits its 64 bits, so narrowing drops nothing (R150). -/
theorem tstep_toNat (t : Quad) : (tstep t).toNat = t.toNat / 30 := by
  have := t.isLt
  simp [tstep]
  omega

/-- The remainder fits its 20 bits, so narrowing drops nothing (R202). -/
theorem reduceCode_toNat (x : BitVec 31) : (reduceCode x).toNat = x.toNat % 1000000 := by
  simp [reduceCode]
  omega

theorem decimal6_getElem (c : BitVec 20) (i : Nat) (h : i < 6) : (decimal6 c)[i] = decimalDigit c i := by
  interval_cases i <;> rfl

/-- A digit is one ASCII byte, so narrowing drops nothing (R203). -/
theorem decimalDigit_toNat (c : BitVec 20) (i : Nat) :
    (decimalDigit c i).toNat = 0x30 + c.toNat / 10 ^ (5 - i) % 10 := by
  simp [decimalDigit]
  omega

end Sys2Proof.Machine
end

