-- ==== Sys2Proof/Laws/Decode.lean ====
section
/-! SUPPORT. Lemmas about the two decoders: the opcode of the row an OP selects, and where the register map has a register. -/

namespace Sys2Proof

theorem opcode_instrOfOp (op : Op) : opcode (instrOfOp op) = op := by revert op; decide

@[simp] theorem instrOfOp_opcode (i : Instr) : instrOfOp (opcode i) = i := by cases i <;> rfl

theorem opcode_injective {i j : Instr} (h : opcode i = opcode j) : i = j := by
  rw [← instrOfOp_opcode i, h, instrOfOp_opcode]

/-- The register map, by word index (R50). -/
theorem regAtWord_isSome (n : Nat) : (regAtWord n).isSome = true ↔ (n < 22 ∧ n ≠ 5) ∨ (64 ≤ n ∧ n < 96) := by
  by_cases hn : n < 22
  · interval_cases n <;> simp [regAtWord]
  · unfold regAtWord
    split <;> first
      | omega
      | (split
         · exact iff_of_true rfl (by omega)
         · exact iff_of_false (by simp) (by omega))

/-- A register stands at its own offset. -/
theorem regAtWord_offset {n : Nat} {r : Reg} (h : regAtWord n = some r) : (Reg.offset r).toNat = 4 * n := by
  unfold regAtWord at h
  split at h <;> first
    | (cases h; done)
    | (cases h; rfl)
    | (split at h
       · cases h
         simp [Reg.offset]
         omega
       · cases h)

/-- An offset has a register exactly where R242 names no bus error for it. -/
theorem regAt_isSome (off : Offset) : (regAt off).isSome = true ↔
    off.toNat % 4 = 0 ∧ off.toNat ≠ 0x014 ∧ ¬ (0x058 ≤ off.toNat ∧ off.toNat ≤ 0x0FF) ∧ off.toNat < 0x180 := by
  unfold regAt
  split
  · rw [regAtWord_isSome]; omega
  · simp; omega

theorem regAt_eq_none (off : Offset) : regAt off = none ↔
    off.toNat % 4 ≠ 0 ∨ off.toNat = 0x014 ∨ (0x058 ≤ off.toNat ∧ off.toNat ≤ 0x0FF) ∨ 0x180 ≤ off.toNat := by
  rw [← Option.not_isSome_iff_eq_none, regAt_isSome]
  omega

theorem regAt_sound {off : Offset} {r : Reg} (h : regAt off = some r) : off = Reg.offset r := by
  unfold regAt at h
  split at h
  · have := regAtWord_offset h
    apply BitVec.eq_of_toNat_eq
    omega
  · cases h

@[simp] theorem regAt_regOffset (r : Reg) : regAt (Reg.offset r) = some r := by
  cases r <;> first | rfl | (rename_i i; revert i; decide)

end Sys2Proof
end

