-- ==== Sys2Proof/Laws/State.lean ====
section
/-! SUPPORT. One lemma per field of State per named update: what the update leaves the field at. All are true by rfl but
those of `errorEvent`, which keeps the first error. -/

namespace Sys2Proof.Machine

variable (s : State)

/-! ### `clearError` -/

@[simp] theorem clearError_doneIe : (clearError s).doneIe = s.doneIe := rfl
@[simp] theorem clearError_errIe : (clearError s).errIe = s.errIe := rfl
@[simp] theorem clearError_keyAutoclr : (clearError s).keyAutoclr = s.keyAutoclr := rfl
@[simp] theorem clearError_busy : (clearError s).busy = s.busy := rfl
@[simp] theorem clearError_done : (clearError s).done = s.done := rfl
@[simp] theorem clearError_err : (clearError s).err = false := rfl
@[simp] theorem clearError_errcode : (clearError s).errcode = 0#4 := rfl
@[simp] theorem clearError_keylen : (clearError s).keylen = s.keylen := rfl
@[simp] theorem clearError_timeHi : (clearError s).timeHi = s.timeHi := rfl
@[simp] theorem clearError_timeLo : (clearError s).timeLo = s.timeLo := rfl
@[simp] theorem clearError_ctrHi : (clearError s).ctrHi = s.ctrHi := rfl
@[simp] theorem clearError_ctrLo : (clearError s).ctrLo = s.ctrLo := rfl
@[simp] theorem clearError_key : (clearError s).key = s.key := rfl
@[simp] theorem clearError_cblk : (clearError s).cblk = s.cblk := rfl
@[simp] theorem clearError_mac : (clearError s).mac = s.mac := rfl
@[simp] theorem clearError_truncOff : (clearError s).truncOff = s.truncOff := rfl
@[simp] theorem clearError_dbc : (clearError s).dbc = s.dbc := rfl
@[simp] theorem clearError_code : (clearError s).code = s.code := rfl
@[simp] theorem clearError_dig : (clearError s).dig = s.dig := rfl
@[simp] theorem clearError_pendOp : (clearError s).pendOp = s.pendOp := rfl
@[simp] theorem clearError_pendAcl : (clearError s).pendAcl = s.pendAcl := rfl
@[simp] theorem clearError_inReset : (clearError s).inReset = s.inReset := rfl
@[simp] theorem clearError_events : (clearError s).events = s.events := rfl
@[simp] theorem clearError_resp : (clearError s).resp = s.resp := rfl
@[simp] theorem clearError_turn : (clearError s).turn = s.turn := rfl

/-! ### `startCommand` -/

@[simp] theorem startCommand_doneIe (op : Op) : (startCommand op s).doneIe = s.doneIe := rfl
@[simp] theorem startCommand_errIe (op : Op) : (startCommand op s).errIe = s.errIe := rfl
@[simp] theorem startCommand_keyAutoclr (op : Op) : (startCommand op s).keyAutoclr = s.keyAutoclr := rfl
@[simp] theorem startCommand_busy (op : Op) : (startCommand op s).busy = true := rfl
@[simp] theorem startCommand_done (op : Op) : (startCommand op s).done = false := rfl
@[simp] theorem startCommand_err (op : Op) : (startCommand op s).err = s.err := rfl
@[simp] theorem startCommand_errcode (op : Op) : (startCommand op s).errcode = s.errcode := rfl
@[simp] theorem startCommand_keylen (op : Op) : (startCommand op s).keylen = s.keylen := rfl
@[simp] theorem startCommand_timeHi (op : Op) : (startCommand op s).timeHi = s.timeHi := rfl
@[simp] theorem startCommand_timeLo (op : Op) : (startCommand op s).timeLo = s.timeLo := rfl
@[simp] theorem startCommand_ctrHi (op : Op) : (startCommand op s).ctrHi = s.ctrHi := rfl
@[simp] theorem startCommand_ctrLo (op : Op) : (startCommand op s).ctrLo = s.ctrLo := rfl
@[simp] theorem startCommand_key (op : Op) : (startCommand op s).key = s.key := rfl
@[simp] theorem startCommand_cblk (op : Op) : (startCommand op s).cblk = s.cblk := rfl
@[simp] theorem startCommand_mac (op : Op) : (startCommand op s).mac = s.mac := rfl
@[simp] theorem startCommand_truncOff (op : Op) : (startCommand op s).truncOff = s.truncOff := rfl
@[simp] theorem startCommand_dbc (op : Op) : (startCommand op s).dbc = s.dbc := rfl
@[simp] theorem startCommand_code (op : Op) : (startCommand op s).code = s.code := rfl
@[simp] theorem startCommand_dig (op : Op) : (startCommand op s).dig = s.dig := rfl
@[simp] theorem startCommand_pendOp (op : Op) : (startCommand op s).pendOp = op := rfl
@[simp] theorem startCommand_pendAcl (op : Op) : (startCommand op s).pendAcl = s.keyAutoclr := rfl
@[simp] theorem startCommand_inReset (op : Op) : (startCommand op s).inReset = s.inReset := rfl
@[simp] theorem startCommand_events (op : Op) : (startCommand op s).events = s.events := rfl
@[simp] theorem startCommand_resp (op : Op) : (startCommand op s).resp = s.resp := rfl
@[simp] theorem startCommand_turn (op : Op) : (startCommand op s).turn = s.turn := rfl

/-! ### `clearKey` -/

@[simp] theorem clearKey_doneIe : (clearKey s).doneIe = s.doneIe := rfl
@[simp] theorem clearKey_errIe : (clearKey s).errIe = s.errIe := rfl
@[simp] theorem clearKey_keyAutoclr : (clearKey s).keyAutoclr = s.keyAutoclr := rfl
@[simp] theorem clearKey_busy : (clearKey s).busy = s.busy := rfl
@[simp] theorem clearKey_done : (clearKey s).done = s.done := rfl
@[simp] theorem clearKey_err : (clearKey s).err = s.err := rfl
@[simp] theorem clearKey_errcode : (clearKey s).errcode = s.errcode := rfl
@[simp] theorem clearKey_keylen : (clearKey s).keylen = 0#8 := rfl
@[simp] theorem clearKey_timeHi : (clearKey s).timeHi = s.timeHi := rfl
@[simp] theorem clearKey_timeLo : (clearKey s).timeLo = s.timeLo := rfl
@[simp] theorem clearKey_ctrHi : (clearKey s).ctrHi = s.ctrHi := rfl
@[simp] theorem clearKey_ctrLo : (clearKey s).ctrLo = s.ctrLo := rfl
@[simp] theorem clearKey_key : (clearKey s).key = Vector.replicate 128 0#8 := rfl
@[simp] theorem clearKey_cblk : (clearKey s).cblk = s.cblk := rfl
@[simp] theorem clearKey_mac : (clearKey s).mac = s.mac := rfl
@[simp] theorem clearKey_truncOff : (clearKey s).truncOff = s.truncOff := rfl
@[simp] theorem clearKey_dbc : (clearKey s).dbc = s.dbc := rfl
@[simp] theorem clearKey_code : (clearKey s).code = s.code := rfl
@[simp] theorem clearKey_dig : (clearKey s).dig = s.dig := rfl
@[simp] theorem clearKey_pendOp : (clearKey s).pendOp = s.pendOp := rfl
@[simp] theorem clearKey_pendAcl : (clearKey s).pendAcl = s.pendAcl := rfl
@[simp] theorem clearKey_inReset : (clearKey s).inReset = s.inReset := rfl
@[simp] theorem clearKey_events : (clearKey s).events = s.events := rfl
@[simp] theorem clearKey_resp : (clearKey s).resp = s.resp := rfl
@[simp] theorem clearKey_turn : (clearKey s).turn = s.turn := rfl

/-! ### `finishCommand` -/

@[simp] theorem finishCommand_doneIe : (finishCommand s).doneIe = s.doneIe := rfl
@[simp] theorem finishCommand_errIe : (finishCommand s).errIe = s.errIe := rfl
@[simp] theorem finishCommand_keyAutoclr : (finishCommand s).keyAutoclr = s.keyAutoclr := rfl
@[simp] theorem finishCommand_busy : (finishCommand s).busy = false := rfl
@[simp] theorem finishCommand_done : (finishCommand s).done = true := rfl
@[simp] theorem finishCommand_err : (finishCommand s).err = s.err := rfl
@[simp] theorem finishCommand_errcode : (finishCommand s).errcode = s.errcode := rfl
@[simp] theorem finishCommand_keylen : (finishCommand s).keylen = s.keylen := rfl
@[simp] theorem finishCommand_timeHi : (finishCommand s).timeHi = s.timeHi := rfl
@[simp] theorem finishCommand_timeLo : (finishCommand s).timeLo = s.timeLo := rfl
@[simp] theorem finishCommand_ctrHi : (finishCommand s).ctrHi = s.ctrHi := rfl
@[simp] theorem finishCommand_ctrLo : (finishCommand s).ctrLo = s.ctrLo := rfl
@[simp] theorem finishCommand_key : (finishCommand s).key = s.key := rfl
@[simp] theorem finishCommand_cblk : (finishCommand s).cblk = s.cblk := rfl
@[simp] theorem finishCommand_mac : (finishCommand s).mac = s.mac := rfl
@[simp] theorem finishCommand_truncOff : (finishCommand s).truncOff = s.truncOff := rfl
@[simp] theorem finishCommand_dbc : (finishCommand s).dbc = s.dbc := rfl
@[simp] theorem finishCommand_code : (finishCommand s).code = s.code := rfl
@[simp] theorem finishCommand_dig : (finishCommand s).dig = s.dig := rfl
@[simp] theorem finishCommand_pendOp : (finishCommand s).pendOp = s.pendOp := rfl
@[simp] theorem finishCommand_pendAcl : (finishCommand s).pendAcl = s.pendAcl := rfl
@[simp] theorem finishCommand_inReset : (finishCommand s).inReset = s.inReset := rfl
@[simp] theorem finishCommand_events : (finishCommand s).events = s.events := rfl
@[simp] theorem finishCommand_resp : (finishCommand s).resp = s.resp := rfl
@[simp] theorem finishCommand_turn : (finishCommand s).turn = s.turn := rfl

/-! ### `softReset` -/

@[simp] theorem softReset_doneIe : (softReset s).doneIe = false := rfl
@[simp] theorem softReset_errIe : (softReset s).errIe = false := rfl
@[simp] theorem softReset_keyAutoclr : (softReset s).keyAutoclr = true := rfl
@[simp] theorem softReset_busy : (softReset s).busy = false := rfl
@[simp] theorem softReset_done : (softReset s).done = false := rfl
@[simp] theorem softReset_err : (softReset s).err = false := rfl
@[simp] theorem softReset_errcode : (softReset s).errcode = 0#4 := rfl
@[simp] theorem softReset_keylen : (softReset s).keylen = 0#8 := rfl
@[simp] theorem softReset_timeHi : (softReset s).timeHi = 0#32 := rfl
@[simp] theorem softReset_timeLo : (softReset s).timeLo = 0#32 := rfl
@[simp] theorem softReset_ctrHi : (softReset s).ctrHi = 0#32 := rfl
@[simp] theorem softReset_ctrLo : (softReset s).ctrLo = 0#32 := rfl
@[simp] theorem softReset_key : (softReset s).key = Vector.replicate 128 0#8 := rfl
@[simp] theorem softReset_cblk : (softReset s).cblk = Vector.replicate 8 0#8 := rfl
@[simp] theorem softReset_mac : (softReset s).mac = Vector.replicate 20 0#8 := rfl
@[simp] theorem softReset_truncOff : (softReset s).truncOff = 0#4 := rfl
@[simp] theorem softReset_dbc : (softReset s).dbc = 0#31 := rfl
@[simp] theorem softReset_code : (softReset s).code = 0#20 := rfl
@[simp] theorem softReset_dig : (softReset s).dig = Vector.replicate 6 0#8 := rfl
@[simp] theorem softReset_pendOp : (softReset s).pendOp = 0#4 := rfl
@[simp] theorem softReset_pendAcl : (softReset s).pendAcl = false := rfl
@[simp] theorem softReset_inReset : (softReset s).inReset = s.inReset := rfl
@[simp] theorem softReset_events : (softReset s).events = s.events := rfl
@[simp] theorem softReset_resp : (softReset s).resp = s.resp := rfl
@[simp] theorem softReset_turn : (softReset s).turn = s.turn := rfl

/-! ### `assertReset` -/

@[simp] theorem assertReset_doneIe : (assertReset s).doneIe = false := rfl
@[simp] theorem assertReset_errIe : (assertReset s).errIe = false := rfl
@[simp] theorem assertReset_keyAutoclr : (assertReset s).keyAutoclr = true := rfl
@[simp] theorem assertReset_busy : (assertReset s).busy = false := rfl
@[simp] theorem assertReset_done : (assertReset s).done = false := rfl
@[simp] theorem assertReset_err : (assertReset s).err = false := rfl
@[simp] theorem assertReset_errcode : (assertReset s).errcode = 0#4 := rfl
@[simp] theorem assertReset_keylen : (assertReset s).keylen = 0#8 := rfl
@[simp] theorem assertReset_timeHi : (assertReset s).timeHi = 0#32 := rfl
@[simp] theorem assertReset_timeLo : (assertReset s).timeLo = 0#32 := rfl
@[simp] theorem assertReset_ctrHi : (assertReset s).ctrHi = 0#32 := rfl
@[simp] theorem assertReset_ctrLo : (assertReset s).ctrLo = 0#32 := rfl
@[simp] theorem assertReset_key : (assertReset s).key = Vector.replicate 128 0#8 := rfl
@[simp] theorem assertReset_cblk : (assertReset s).cblk = Vector.replicate 8 0#8 := rfl
@[simp] theorem assertReset_mac : (assertReset s).mac = Vector.replicate 20 0#8 := rfl
@[simp] theorem assertReset_truncOff : (assertReset s).truncOff = 0#4 := rfl
@[simp] theorem assertReset_dbc : (assertReset s).dbc = 0#31 := rfl
@[simp] theorem assertReset_code : (assertReset s).code = 0#20 := rfl
@[simp] theorem assertReset_dig : (assertReset s).dig = Vector.replicate 6 0#8 := rfl
@[simp] theorem assertReset_pendOp : (assertReset s).pendOp = 0#4 := rfl
@[simp] theorem assertReset_pendAcl : (assertReset s).pendAcl = false := rfl
@[simp] theorem assertReset_inReset : (assertReset s).inReset = true := rfl
@[simp] theorem assertReset_events : (assertReset s).events = s.events := rfl
@[simp] theorem assertReset_resp : (assertReset s).resp = s.resp := rfl
@[simp] theorem assertReset_turn : (assertReset s).turn = s.turn := rfl

/-! ### `releaseReset` -/

@[simp] theorem releaseReset_doneIe : (releaseReset s).doneIe = s.doneIe := rfl
@[simp] theorem releaseReset_errIe : (releaseReset s).errIe = s.errIe := rfl
@[simp] theorem releaseReset_keyAutoclr : (releaseReset s).keyAutoclr = s.keyAutoclr := rfl
@[simp] theorem releaseReset_busy : (releaseReset s).busy = s.busy := rfl
@[simp] theorem releaseReset_done : (releaseReset s).done = s.done := rfl
@[simp] theorem releaseReset_err : (releaseReset s).err = s.err := rfl
@[simp] theorem releaseReset_errcode : (releaseReset s).errcode = s.errcode := rfl
@[simp] theorem releaseReset_keylen : (releaseReset s).keylen = s.keylen := rfl
@[simp] theorem releaseReset_timeHi : (releaseReset s).timeHi = s.timeHi := rfl
@[simp] theorem releaseReset_timeLo : (releaseReset s).timeLo = s.timeLo := rfl
@[simp] theorem releaseReset_ctrHi : (releaseReset s).ctrHi = s.ctrHi := rfl
@[simp] theorem releaseReset_ctrLo : (releaseReset s).ctrLo = s.ctrLo := rfl
@[simp] theorem releaseReset_key : (releaseReset s).key = s.key := rfl
@[simp] theorem releaseReset_cblk : (releaseReset s).cblk = s.cblk := rfl
@[simp] theorem releaseReset_mac : (releaseReset s).mac = s.mac := rfl
@[simp] theorem releaseReset_truncOff : (releaseReset s).truncOff = s.truncOff := rfl
@[simp] theorem releaseReset_dbc : (releaseReset s).dbc = s.dbc := rfl
@[simp] theorem releaseReset_code : (releaseReset s).code = s.code := rfl
@[simp] theorem releaseReset_dig : (releaseReset s).dig = s.dig := rfl
@[simp] theorem releaseReset_pendOp : (releaseReset s).pendOp = s.pendOp := rfl
@[simp] theorem releaseReset_pendAcl : (releaseReset s).pendAcl = s.pendAcl := rfl
@[simp] theorem releaseReset_inReset : (releaseReset s).inReset = false := rfl
@[simp] theorem releaseReset_events : (releaseReset s).events = s.events := rfl
@[simp] theorem releaseReset_resp : (releaseReset s).resp = s.resp := rfl
@[simp] theorem releaseReset_turn : (releaseReset s).turn = s.turn := rfl

/-! ### `setCtr` -/

@[simp] theorem setCtr_doneIe (c : Quad) : (setCtr c s).doneIe = s.doneIe := rfl
@[simp] theorem setCtr_errIe (c : Quad) : (setCtr c s).errIe = s.errIe := rfl
@[simp] theorem setCtr_keyAutoclr (c : Quad) : (setCtr c s).keyAutoclr = s.keyAutoclr := rfl
@[simp] theorem setCtr_busy (c : Quad) : (setCtr c s).busy = s.busy := rfl
@[simp] theorem setCtr_done (c : Quad) : (setCtr c s).done = s.done := rfl
@[simp] theorem setCtr_err (c : Quad) : (setCtr c s).err = s.err := rfl
@[simp] theorem setCtr_errcode (c : Quad) : (setCtr c s).errcode = s.errcode := rfl
@[simp] theorem setCtr_keylen (c : Quad) : (setCtr c s).keylen = s.keylen := rfl
@[simp] theorem setCtr_timeHi (c : Quad) : (setCtr c s).timeHi = s.timeHi := rfl
@[simp] theorem setCtr_timeLo (c : Quad) : (setCtr c s).timeLo = s.timeLo := rfl
@[simp] theorem setCtr_ctrHi (c : Quad) : (setCtr c s).ctrHi = c.extractLsb' 32 32 := rfl
@[simp] theorem setCtr_ctrLo (c : Quad) : (setCtr c s).ctrLo = c.extractLsb' 0 32 := rfl
@[simp] theorem setCtr_key (c : Quad) : (setCtr c s).key = s.key := rfl
@[simp] theorem setCtr_cblk (c : Quad) : (setCtr c s).cblk = s.cblk := rfl
@[simp] theorem setCtr_mac (c : Quad) : (setCtr c s).mac = s.mac := rfl
@[simp] theorem setCtr_truncOff (c : Quad) : (setCtr c s).truncOff = s.truncOff := rfl
@[simp] theorem setCtr_dbc (c : Quad) : (setCtr c s).dbc = s.dbc := rfl
@[simp] theorem setCtr_code (c : Quad) : (setCtr c s).code = s.code := rfl
@[simp] theorem setCtr_dig (c : Quad) : (setCtr c s).dig = s.dig := rfl
@[simp] theorem setCtr_pendOp (c : Quad) : (setCtr c s).pendOp = s.pendOp := rfl
@[simp] theorem setCtr_pendAcl (c : Quad) : (setCtr c s).pendAcl = s.pendAcl := rfl
@[simp] theorem setCtr_inReset (c : Quad) : (setCtr c s).inReset = s.inReset := rfl
@[simp] theorem setCtr_events (c : Quad) : (setCtr c s).events = s.events := rfl
@[simp] theorem setCtr_resp (c : Quad) : (setCtr c s).resp = s.resp := rfl
@[simp] theorem setCtr_turn (c : Quad) : (setCtr c s).turn = s.turn := rfl

/-! ### `storeKeylen` -/

@[simp] theorem storeKeylen_doneIe (v : Word) : (storeKeylen v s).doneIe = s.doneIe := rfl
@[simp] theorem storeKeylen_errIe (v : Word) : (storeKeylen v s).errIe = s.errIe := rfl
@[simp] theorem storeKeylen_keyAutoclr (v : Word) : (storeKeylen v s).keyAutoclr = s.keyAutoclr := rfl
@[simp] theorem storeKeylen_busy (v : Word) : (storeKeylen v s).busy = s.busy := rfl
@[simp] theorem storeKeylen_done (v : Word) : (storeKeylen v s).done = s.done := rfl
@[simp] theorem storeKeylen_err (v : Word) : (storeKeylen v s).err = s.err := rfl
@[simp] theorem storeKeylen_errcode (v : Word) : (storeKeylen v s).errcode = s.errcode := rfl
@[simp] theorem storeKeylen_keylen (v : Word) : (storeKeylen v s).keylen = v.extractLsb' 0 8 := rfl
@[simp] theorem storeKeylen_timeHi (v : Word) : (storeKeylen v s).timeHi = s.timeHi := rfl
@[simp] theorem storeKeylen_timeLo (v : Word) : (storeKeylen v s).timeLo = s.timeLo := rfl
@[simp] theorem storeKeylen_ctrHi (v : Word) : (storeKeylen v s).ctrHi = s.ctrHi := rfl
@[simp] theorem storeKeylen_ctrLo (v : Word) : (storeKeylen v s).ctrLo = s.ctrLo := rfl
@[simp] theorem storeKeylen_key (v : Word) : (storeKeylen v s).key = s.key := rfl
@[simp] theorem storeKeylen_cblk (v : Word) : (storeKeylen v s).cblk = s.cblk := rfl
@[simp] theorem storeKeylen_mac (v : Word) : (storeKeylen v s).mac = s.mac := rfl
@[simp] theorem storeKeylen_truncOff (v : Word) : (storeKeylen v s).truncOff = s.truncOff := rfl
@[simp] theorem storeKeylen_dbc (v : Word) : (storeKeylen v s).dbc = s.dbc := rfl
@[simp] theorem storeKeylen_code (v : Word) : (storeKeylen v s).code = s.code := rfl
@[simp] theorem storeKeylen_dig (v : Word) : (storeKeylen v s).dig = s.dig := rfl
@[simp] theorem storeKeylen_pendOp (v : Word) : (storeKeylen v s).pendOp = s.pendOp := rfl
@[simp] theorem storeKeylen_pendAcl (v : Word) : (storeKeylen v s).pendAcl = s.pendAcl := rfl
@[simp] theorem storeKeylen_inReset (v : Word) : (storeKeylen v s).inReset = s.inReset := rfl
@[simp] theorem storeKeylen_events (v : Word) : (storeKeylen v s).events = s.events := rfl
@[simp] theorem storeKeylen_resp (v : Word) : (storeKeylen v s).resp = s.resp := rfl
@[simp] theorem storeKeylen_turn (v : Word) : (storeKeylen v s).turn = s.turn := rfl

/-! ### `storeTimeHi` -/

@[simp] theorem storeTimeHi_doneIe (v : Word) : (storeTimeHi v s).doneIe = s.doneIe := rfl
@[simp] theorem storeTimeHi_errIe (v : Word) : (storeTimeHi v s).errIe = s.errIe := rfl
@[simp] theorem storeTimeHi_keyAutoclr (v : Word) : (storeTimeHi v s).keyAutoclr = s.keyAutoclr := rfl
@[simp] theorem storeTimeHi_busy (v : Word) : (storeTimeHi v s).busy = s.busy := rfl
@[simp] theorem storeTimeHi_done (v : Word) : (storeTimeHi v s).done = s.done := rfl
@[simp] theorem storeTimeHi_err (v : Word) : (storeTimeHi v s).err = s.err := rfl
@[simp] theorem storeTimeHi_errcode (v : Word) : (storeTimeHi v s).errcode = s.errcode := rfl
@[simp] theorem storeTimeHi_keylen (v : Word) : (storeTimeHi v s).keylen = s.keylen := rfl
@[simp] theorem storeTimeHi_timeHi (v : Word) : (storeTimeHi v s).timeHi = v := rfl
@[simp] theorem storeTimeHi_timeLo (v : Word) : (storeTimeHi v s).timeLo = s.timeLo := rfl
@[simp] theorem storeTimeHi_ctrHi (v : Word) : (storeTimeHi v s).ctrHi = s.ctrHi := rfl
@[simp] theorem storeTimeHi_ctrLo (v : Word) : (storeTimeHi v s).ctrLo = s.ctrLo := rfl
@[simp] theorem storeTimeHi_key (v : Word) : (storeTimeHi v s).key = s.key := rfl
@[simp] theorem storeTimeHi_cblk (v : Word) : (storeTimeHi v s).cblk = s.cblk := rfl
@[simp] theorem storeTimeHi_mac (v : Word) : (storeTimeHi v s).mac = s.mac := rfl
@[simp] theorem storeTimeHi_truncOff (v : Word) : (storeTimeHi v s).truncOff = s.truncOff := rfl
@[simp] theorem storeTimeHi_dbc (v : Word) : (storeTimeHi v s).dbc = s.dbc := rfl
@[simp] theorem storeTimeHi_code (v : Word) : (storeTimeHi v s).code = s.code := rfl
@[simp] theorem storeTimeHi_dig (v : Word) : (storeTimeHi v s).dig = s.dig := rfl
@[simp] theorem storeTimeHi_pendOp (v : Word) : (storeTimeHi v s).pendOp = s.pendOp := rfl
@[simp] theorem storeTimeHi_pendAcl (v : Word) : (storeTimeHi v s).pendAcl = s.pendAcl := rfl
@[simp] theorem storeTimeHi_inReset (v : Word) : (storeTimeHi v s).inReset = s.inReset := rfl
@[simp] theorem storeTimeHi_events (v : Word) : (storeTimeHi v s).events = s.events := rfl
@[simp] theorem storeTimeHi_resp (v : Word) : (storeTimeHi v s).resp = s.resp := rfl
@[simp] theorem storeTimeHi_turn (v : Word) : (storeTimeHi v s).turn = s.turn := rfl

/-! ### `storeTimeLo` -/

@[simp] theorem storeTimeLo_doneIe (v : Word) : (storeTimeLo v s).doneIe = s.doneIe := rfl
@[simp] theorem storeTimeLo_errIe (v : Word) : (storeTimeLo v s).errIe = s.errIe := rfl
@[simp] theorem storeTimeLo_keyAutoclr (v : Word) : (storeTimeLo v s).keyAutoclr = s.keyAutoclr := rfl
@[simp] theorem storeTimeLo_busy (v : Word) : (storeTimeLo v s).busy = s.busy := rfl
@[simp] theorem storeTimeLo_done (v : Word) : (storeTimeLo v s).done = s.done := rfl
@[simp] theorem storeTimeLo_err (v : Word) : (storeTimeLo v s).err = s.err := rfl
@[simp] theorem storeTimeLo_errcode (v : Word) : (storeTimeLo v s).errcode = s.errcode := rfl
@[simp] theorem storeTimeLo_keylen (v : Word) : (storeTimeLo v s).keylen = s.keylen := rfl
@[simp] theorem storeTimeLo_timeHi (v : Word) : (storeTimeLo v s).timeHi = s.timeHi := rfl
@[simp] theorem storeTimeLo_timeLo (v : Word) : (storeTimeLo v s).timeLo = v := rfl
@[simp] theorem storeTimeLo_ctrHi (v : Word) : (storeTimeLo v s).ctrHi = s.ctrHi := rfl
@[simp] theorem storeTimeLo_ctrLo (v : Word) : (storeTimeLo v s).ctrLo = s.ctrLo := rfl
@[simp] theorem storeTimeLo_key (v : Word) : (storeTimeLo v s).key = s.key := rfl
@[simp] theorem storeTimeLo_cblk (v : Word) : (storeTimeLo v s).cblk = s.cblk := rfl
@[simp] theorem storeTimeLo_mac (v : Word) : (storeTimeLo v s).mac = s.mac := rfl
@[simp] theorem storeTimeLo_truncOff (v : Word) : (storeTimeLo v s).truncOff = s.truncOff := rfl
@[simp] theorem storeTimeLo_dbc (v : Word) : (storeTimeLo v s).dbc = s.dbc := rfl
@[simp] theorem storeTimeLo_code (v : Word) : (storeTimeLo v s).code = s.code := rfl
@[simp] theorem storeTimeLo_dig (v : Word) : (storeTimeLo v s).dig = s.dig := rfl
@[simp] theorem storeTimeLo_pendOp (v : Word) : (storeTimeLo v s).pendOp = s.pendOp := rfl
@[simp] theorem storeTimeLo_pendAcl (v : Word) : (storeTimeLo v s).pendAcl = s.pendAcl := rfl
@[simp] theorem storeTimeLo_inReset (v : Word) : (storeTimeLo v s).inReset = s.inReset := rfl
@[simp] theorem storeTimeLo_events (v : Word) : (storeTimeLo v s).events = s.events := rfl
@[simp] theorem storeTimeLo_resp (v : Word) : (storeTimeLo v s).resp = s.resp := rfl
@[simp] theorem storeTimeLo_turn (v : Word) : (storeTimeLo v s).turn = s.turn := rfl

/-! ### `storeCtrHi` -/

@[simp] theorem storeCtrHi_doneIe (v : Word) : (storeCtrHi v s).doneIe = s.doneIe := rfl
@[simp] theorem storeCtrHi_errIe (v : Word) : (storeCtrHi v s).errIe = s.errIe := rfl
@[simp] theorem storeCtrHi_keyAutoclr (v : Word) : (storeCtrHi v s).keyAutoclr = s.keyAutoclr := rfl
@[simp] theorem storeCtrHi_busy (v : Word) : (storeCtrHi v s).busy = s.busy := rfl
@[simp] theorem storeCtrHi_done (v : Word) : (storeCtrHi v s).done = s.done := rfl
@[simp] theorem storeCtrHi_err (v : Word) : (storeCtrHi v s).err = s.err := rfl
@[simp] theorem storeCtrHi_errcode (v : Word) : (storeCtrHi v s).errcode = s.errcode := rfl
@[simp] theorem storeCtrHi_keylen (v : Word) : (storeCtrHi v s).keylen = s.keylen := rfl
@[simp] theorem storeCtrHi_timeHi (v : Word) : (storeCtrHi v s).timeHi = s.timeHi := rfl
@[simp] theorem storeCtrHi_timeLo (v : Word) : (storeCtrHi v s).timeLo = s.timeLo := rfl
@[simp] theorem storeCtrHi_ctrHi (v : Word) : (storeCtrHi v s).ctrHi = v := rfl
@[simp] theorem storeCtrHi_ctrLo (v : Word) : (storeCtrHi v s).ctrLo = s.ctrLo := rfl
@[simp] theorem storeCtrHi_key (v : Word) : (storeCtrHi v s).key = s.key := rfl
@[simp] theorem storeCtrHi_cblk (v : Word) : (storeCtrHi v s).cblk = s.cblk := rfl
@[simp] theorem storeCtrHi_mac (v : Word) : (storeCtrHi v s).mac = s.mac := rfl
@[simp] theorem storeCtrHi_truncOff (v : Word) : (storeCtrHi v s).truncOff = s.truncOff := rfl
@[simp] theorem storeCtrHi_dbc (v : Word) : (storeCtrHi v s).dbc = s.dbc := rfl
@[simp] theorem storeCtrHi_code (v : Word) : (storeCtrHi v s).code = s.code := rfl
@[simp] theorem storeCtrHi_dig (v : Word) : (storeCtrHi v s).dig = s.dig := rfl
@[simp] theorem storeCtrHi_pendOp (v : Word) : (storeCtrHi v s).pendOp = s.pendOp := rfl
@[simp] theorem storeCtrHi_pendAcl (v : Word) : (storeCtrHi v s).pendAcl = s.pendAcl := rfl
@[simp] theorem storeCtrHi_inReset (v : Word) : (storeCtrHi v s).inReset = s.inReset := rfl
@[simp] theorem storeCtrHi_events (v : Word) : (storeCtrHi v s).events = s.events := rfl
@[simp] theorem storeCtrHi_resp (v : Word) : (storeCtrHi v s).resp = s.resp := rfl
@[simp] theorem storeCtrHi_turn (v : Word) : (storeCtrHi v s).turn = s.turn := rfl

/-! ### `storeCtrLo` -/

@[simp] theorem storeCtrLo_doneIe (v : Word) : (storeCtrLo v s).doneIe = s.doneIe := rfl
@[simp] theorem storeCtrLo_errIe (v : Word) : (storeCtrLo v s).errIe = s.errIe := rfl
@[simp] theorem storeCtrLo_keyAutoclr (v : Word) : (storeCtrLo v s).keyAutoclr = s.keyAutoclr := rfl
@[simp] theorem storeCtrLo_busy (v : Word) : (storeCtrLo v s).busy = s.busy := rfl
@[simp] theorem storeCtrLo_done (v : Word) : (storeCtrLo v s).done = s.done := rfl
@[simp] theorem storeCtrLo_err (v : Word) : (storeCtrLo v s).err = s.err := rfl
@[simp] theorem storeCtrLo_errcode (v : Word) : (storeCtrLo v s).errcode = s.errcode := rfl
@[simp] theorem storeCtrLo_keylen (v : Word) : (storeCtrLo v s).keylen = s.keylen := rfl
@[simp] theorem storeCtrLo_timeHi (v : Word) : (storeCtrLo v s).timeHi = s.timeHi := rfl
@[simp] theorem storeCtrLo_timeLo (v : Word) : (storeCtrLo v s).timeLo = s.timeLo := rfl
@[simp] theorem storeCtrLo_ctrHi (v : Word) : (storeCtrLo v s).ctrHi = s.ctrHi := rfl
@[simp] theorem storeCtrLo_ctrLo (v : Word) : (storeCtrLo v s).ctrLo = v := rfl
@[simp] theorem storeCtrLo_key (v : Word) : (storeCtrLo v s).key = s.key := rfl
@[simp] theorem storeCtrLo_cblk (v : Word) : (storeCtrLo v s).cblk = s.cblk := rfl
@[simp] theorem storeCtrLo_mac (v : Word) : (storeCtrLo v s).mac = s.mac := rfl
@[simp] theorem storeCtrLo_truncOff (v : Word) : (storeCtrLo v s).truncOff = s.truncOff := rfl
@[simp] theorem storeCtrLo_dbc (v : Word) : (storeCtrLo v s).dbc = s.dbc := rfl
@[simp] theorem storeCtrLo_code (v : Word) : (storeCtrLo v s).code = s.code := rfl
@[simp] theorem storeCtrLo_dig (v : Word) : (storeCtrLo v s).dig = s.dig := rfl
@[simp] theorem storeCtrLo_pendOp (v : Word) : (storeCtrLo v s).pendOp = s.pendOp := rfl
@[simp] theorem storeCtrLo_pendAcl (v : Word) : (storeCtrLo v s).pendAcl = s.pendAcl := rfl
@[simp] theorem storeCtrLo_inReset (v : Word) : (storeCtrLo v s).inReset = s.inReset := rfl
@[simp] theorem storeCtrLo_events (v : Word) : (storeCtrLo v s).events = s.events := rfl
@[simp] theorem storeCtrLo_resp (v : Word) : (storeCtrLo v s).resp = s.resp := rfl
@[simp] theorem storeCtrLo_turn (v : Word) : (storeCtrLo v s).turn = s.turn := rfl

/-! ### `storeKey` -/

@[simp] theorem storeKey_doneIe (i : Fin 32) (v : Word) : (storeKey i v s).doneIe = s.doneIe := rfl
@[simp] theorem storeKey_errIe (i : Fin 32) (v : Word) : (storeKey i v s).errIe = s.errIe := rfl
@[simp] theorem storeKey_keyAutoclr (i : Fin 32) (v : Word) : (storeKey i v s).keyAutoclr = s.keyAutoclr := rfl
@[simp] theorem storeKey_busy (i : Fin 32) (v : Word) : (storeKey i v s).busy = s.busy := rfl
@[simp] theorem storeKey_done (i : Fin 32) (v : Word) : (storeKey i v s).done = s.done := rfl
@[simp] theorem storeKey_err (i : Fin 32) (v : Word) : (storeKey i v s).err = s.err := rfl
@[simp] theorem storeKey_errcode (i : Fin 32) (v : Word) : (storeKey i v s).errcode = s.errcode := rfl
@[simp] theorem storeKey_keylen (i : Fin 32) (v : Word) : (storeKey i v s).keylen = s.keylen := rfl
@[simp] theorem storeKey_timeHi (i : Fin 32) (v : Word) : (storeKey i v s).timeHi = s.timeHi := rfl
@[simp] theorem storeKey_timeLo (i : Fin 32) (v : Word) : (storeKey i v s).timeLo = s.timeLo := rfl
@[simp] theorem storeKey_ctrHi (i : Fin 32) (v : Word) : (storeKey i v s).ctrHi = s.ctrHi := rfl
@[simp] theorem storeKey_ctrLo (i : Fin 32) (v : Word) : (storeKey i v s).ctrLo = s.ctrLo := rfl
@[simp] theorem storeKey_key (i : Fin 32) (v : Word) : (storeKey i v s).key = setWindowWord s.key i.val v (by omega) := rfl
@[simp] theorem storeKey_cblk (i : Fin 32) (v : Word) : (storeKey i v s).cblk = s.cblk := rfl
@[simp] theorem storeKey_mac (i : Fin 32) (v : Word) : (storeKey i v s).mac = s.mac := rfl
@[simp] theorem storeKey_truncOff (i : Fin 32) (v : Word) : (storeKey i v s).truncOff = s.truncOff := rfl
@[simp] theorem storeKey_dbc (i : Fin 32) (v : Word) : (storeKey i v s).dbc = s.dbc := rfl
@[simp] theorem storeKey_code (i : Fin 32) (v : Word) : (storeKey i v s).code = s.code := rfl
@[simp] theorem storeKey_dig (i : Fin 32) (v : Word) : (storeKey i v s).dig = s.dig := rfl
@[simp] theorem storeKey_pendOp (i : Fin 32) (v : Word) : (storeKey i v s).pendOp = s.pendOp := rfl
@[simp] theorem storeKey_pendAcl (i : Fin 32) (v : Word) : (storeKey i v s).pendAcl = s.pendAcl := rfl
@[simp] theorem storeKey_inReset (i : Fin 32) (v : Word) : (storeKey i v s).inReset = s.inReset := rfl
@[simp] theorem storeKey_events (i : Fin 32) (v : Word) : (storeKey i v s).events = s.events := rfl
@[simp] theorem storeKey_resp (i : Fin 32) (v : Word) : (storeKey i v s).resp = s.resp := rfl
@[simp] theorem storeKey_turn (i : Fin 32) (v : Word) : (storeKey i v s).turn = s.turn := rfl

/-! ### `writeCtrl` -/

@[simp] theorem writeCtrl_doneIe (v : Word) : (writeCtrl v s).doneIe = v.getLsbD 0 := rfl
@[simp] theorem writeCtrl_errIe (v : Word) : (writeCtrl v s).errIe = v.getLsbD 1 := rfl
@[simp] theorem writeCtrl_keyAutoclr (v : Word) : (writeCtrl v s).keyAutoclr = v.getLsbD 2 := rfl
@[simp] theorem writeCtrl_busy (v : Word) : (writeCtrl v s).busy = s.busy := rfl
@[simp] theorem writeCtrl_done (v : Word) : (writeCtrl v s).done = s.done := rfl
@[simp] theorem writeCtrl_err (v : Word) : (writeCtrl v s).err = s.err := rfl
@[simp] theorem writeCtrl_errcode (v : Word) : (writeCtrl v s).errcode = s.errcode := rfl
@[simp] theorem writeCtrl_keylen (v : Word) : (writeCtrl v s).keylen = s.keylen := rfl
@[simp] theorem writeCtrl_timeHi (v : Word) : (writeCtrl v s).timeHi = s.timeHi := rfl
@[simp] theorem writeCtrl_timeLo (v : Word) : (writeCtrl v s).timeLo = s.timeLo := rfl
@[simp] theorem writeCtrl_ctrHi (v : Word) : (writeCtrl v s).ctrHi = s.ctrHi := rfl
@[simp] theorem writeCtrl_ctrLo (v : Word) : (writeCtrl v s).ctrLo = s.ctrLo := rfl
@[simp] theorem writeCtrl_key (v : Word) : (writeCtrl v s).key = s.key := rfl
@[simp] theorem writeCtrl_cblk (v : Word) : (writeCtrl v s).cblk = s.cblk := rfl
@[simp] theorem writeCtrl_mac (v : Word) : (writeCtrl v s).mac = s.mac := rfl
@[simp] theorem writeCtrl_truncOff (v : Word) : (writeCtrl v s).truncOff = s.truncOff := rfl
@[simp] theorem writeCtrl_dbc (v : Word) : (writeCtrl v s).dbc = s.dbc := rfl
@[simp] theorem writeCtrl_code (v : Word) : (writeCtrl v s).code = s.code := rfl
@[simp] theorem writeCtrl_dig (v : Word) : (writeCtrl v s).dig = s.dig := rfl
@[simp] theorem writeCtrl_pendOp (v : Word) : (writeCtrl v s).pendOp = s.pendOp := rfl
@[simp] theorem writeCtrl_pendAcl (v : Word) : (writeCtrl v s).pendAcl = s.pendAcl := rfl
@[simp] theorem writeCtrl_inReset (v : Word) : (writeCtrl v s).inReset = s.inReset := rfl
@[simp] theorem writeCtrl_events (v : Word) : (writeCtrl v s).events = s.events := rfl
@[simp] theorem writeCtrl_resp (v : Word) : (writeCtrl v s).resp = s.resp := rfl
@[simp] theorem writeCtrl_turn (v : Word) : (writeCtrl v s).turn = s.turn := rfl

/-! ### `clearDone` -/

@[simp] theorem clearDone_doneIe : (clearDone s).doneIe = s.doneIe := rfl
@[simp] theorem clearDone_errIe : (clearDone s).errIe = s.errIe := rfl
@[simp] theorem clearDone_keyAutoclr : (clearDone s).keyAutoclr = s.keyAutoclr := rfl
@[simp] theorem clearDone_busy : (clearDone s).busy = s.busy := rfl
@[simp] theorem clearDone_done : (clearDone s).done = false := rfl
@[simp] theorem clearDone_err : (clearDone s).err = s.err := rfl
@[simp] theorem clearDone_errcode : (clearDone s).errcode = s.errcode := rfl
@[simp] theorem clearDone_keylen : (clearDone s).keylen = s.keylen := rfl
@[simp] theorem clearDone_timeHi : (clearDone s).timeHi = s.timeHi := rfl
@[simp] theorem clearDone_timeLo : (clearDone s).timeLo = s.timeLo := rfl
@[simp] theorem clearDone_ctrHi : (clearDone s).ctrHi = s.ctrHi := rfl
@[simp] theorem clearDone_ctrLo : (clearDone s).ctrLo = s.ctrLo := rfl
@[simp] theorem clearDone_key : (clearDone s).key = s.key := rfl
@[simp] theorem clearDone_cblk : (clearDone s).cblk = s.cblk := rfl
@[simp] theorem clearDone_mac : (clearDone s).mac = s.mac := rfl
@[simp] theorem clearDone_truncOff : (clearDone s).truncOff = s.truncOff := rfl
@[simp] theorem clearDone_dbc : (clearDone s).dbc = s.dbc := rfl
@[simp] theorem clearDone_code : (clearDone s).code = s.code := rfl
@[simp] theorem clearDone_dig : (clearDone s).dig = s.dig := rfl
@[simp] theorem clearDone_pendOp : (clearDone s).pendOp = s.pendOp := rfl
@[simp] theorem clearDone_pendAcl : (clearDone s).pendAcl = s.pendAcl := rfl
@[simp] theorem clearDone_inReset : (clearDone s).inReset = s.inReset := rfl
@[simp] theorem clearDone_events : (clearDone s).events = s.events := rfl
@[simp] theorem clearDone_resp : (clearDone s).resp = s.resp := rfl
@[simp] theorem clearDone_turn : (clearDone s).turn = s.turn := rfl

/-! ### `tstepEffect` -/

@[simp] theorem tstepEffect_doneIe : (tstepEffect s).doneIe = s.doneIe := rfl
@[simp] theorem tstepEffect_errIe : (tstepEffect s).errIe = s.errIe := rfl
@[simp] theorem tstepEffect_keyAutoclr : (tstepEffect s).keyAutoclr = s.keyAutoclr := rfl
@[simp] theorem tstepEffect_busy : (tstepEffect s).busy = s.busy := rfl
@[simp] theorem tstepEffect_done : (tstepEffect s).done = s.done := rfl
@[simp] theorem tstepEffect_err : (tstepEffect s).err = s.err := rfl
@[simp] theorem tstepEffect_errcode : (tstepEffect s).errcode = s.errcode := rfl
@[simp] theorem tstepEffect_keylen : (tstepEffect s).keylen = s.keylen := rfl
@[simp] theorem tstepEffect_timeHi : (tstepEffect s).timeHi = s.timeHi := rfl
@[simp] theorem tstepEffect_timeLo : (tstepEffect s).timeLo = s.timeLo := rfl
@[simp] theorem tstepEffect_ctrHi : (tstepEffect s).ctrHi = (tstep (time s)).extractLsb' 32 32 := rfl
@[simp] theorem tstepEffect_ctrLo : (tstepEffect s).ctrLo = (tstep (time s)).extractLsb' 0 32 := rfl
@[simp] theorem tstepEffect_key : (tstepEffect s).key = s.key := rfl
@[simp] theorem tstepEffect_cblk : (tstepEffect s).cblk = s.cblk := rfl
@[simp] theorem tstepEffect_mac : (tstepEffect s).mac = s.mac := rfl
@[simp] theorem tstepEffect_truncOff : (tstepEffect s).truncOff = s.truncOff := rfl
@[simp] theorem tstepEffect_dbc : (tstepEffect s).dbc = s.dbc := rfl
@[simp] theorem tstepEffect_code : (tstepEffect s).code = s.code := rfl
@[simp] theorem tstepEffect_dig : (tstepEffect s).dig = s.dig := rfl
@[simp] theorem tstepEffect_pendOp : (tstepEffect s).pendOp = s.pendOp := rfl
@[simp] theorem tstepEffect_pendAcl : (tstepEffect s).pendAcl = s.pendAcl := rfl
@[simp] theorem tstepEffect_inReset : (tstepEffect s).inReset = s.inReset := rfl
@[simp] theorem tstepEffect_events : (tstepEffect s).events = s.events := rfl
@[simp] theorem tstepEffect_resp : (tstepEffect s).resp = s.resp := rfl
@[simp] theorem tstepEffect_turn : (tstepEffect s).turn = s.turn := rfl

/-! ### `encodeEffect` -/

@[simp] theorem encodeEffect_doneIe : (encodeEffect s).doneIe = s.doneIe := rfl
@[simp] theorem encodeEffect_errIe : (encodeEffect s).errIe = s.errIe := rfl
@[simp] theorem encodeEffect_keyAutoclr : (encodeEffect s).keyAutoclr = s.keyAutoclr := rfl
@[simp] theorem encodeEffect_busy : (encodeEffect s).busy = s.busy := rfl
@[simp] theorem encodeEffect_done : (encodeEffect s).done = s.done := rfl
@[simp] theorem encodeEffect_err : (encodeEffect s).err = s.err := rfl
@[simp] theorem encodeEffect_errcode : (encodeEffect s).errcode = s.errcode := rfl
@[simp] theorem encodeEffect_keylen : (encodeEffect s).keylen = s.keylen := rfl
@[simp] theorem encodeEffect_timeHi : (encodeEffect s).timeHi = s.timeHi := rfl
@[simp] theorem encodeEffect_timeLo : (encodeEffect s).timeLo = s.timeLo := rfl
@[simp] theorem encodeEffect_ctrHi : (encodeEffect s).ctrHi = s.ctrHi := rfl
@[simp] theorem encodeEffect_ctrLo : (encodeEffect s).ctrLo = s.ctrLo := rfl
@[simp] theorem encodeEffect_key : (encodeEffect s).key = s.key := rfl
@[simp] theorem encodeEffect_cblk : (encodeEffect s).cblk = bytes64 (ctr s) := rfl
@[simp] theorem encodeEffect_mac : (encodeEffect s).mac = s.mac := rfl
@[simp] theorem encodeEffect_truncOff : (encodeEffect s).truncOff = s.truncOff := rfl
@[simp] theorem encodeEffect_dbc : (encodeEffect s).dbc = s.dbc := rfl
@[simp] theorem encodeEffect_code : (encodeEffect s).code = s.code := rfl
@[simp] theorem encodeEffect_dig : (encodeEffect s).dig = s.dig := rfl
@[simp] theorem encodeEffect_pendOp : (encodeEffect s).pendOp = s.pendOp := rfl
@[simp] theorem encodeEffect_pendAcl : (encodeEffect s).pendAcl = s.pendAcl := rfl
@[simp] theorem encodeEffect_inReset : (encodeEffect s).inReset = s.inReset := rfl
@[simp] theorem encodeEffect_events : (encodeEffect s).events = s.events := rfl
@[simp] theorem encodeEffect_resp : (encodeEffect s).resp = s.resp := rfl
@[simp] theorem encodeEffect_turn : (encodeEffect s).turn = s.turn := rfl

/-! ### `hmacEffect` -/

@[simp] theorem hmacEffect_doneIe : (hmacEffect s).doneIe = s.doneIe := rfl
@[simp] theorem hmacEffect_errIe : (hmacEffect s).errIe = s.errIe := rfl
@[simp] theorem hmacEffect_keyAutoclr : (hmacEffect s).keyAutoclr = s.keyAutoclr := rfl
@[simp] theorem hmacEffect_busy : (hmacEffect s).busy = s.busy := rfl
@[simp] theorem hmacEffect_done : (hmacEffect s).done = s.done := rfl
@[simp] theorem hmacEffect_err : (hmacEffect s).err = s.err := rfl
@[simp] theorem hmacEffect_errcode : (hmacEffect s).errcode = s.errcode := rfl
@[simp] theorem hmacEffect_keylen : (hmacEffect s).keylen = s.keylen := rfl
@[simp] theorem hmacEffect_timeHi : (hmacEffect s).timeHi = s.timeHi := rfl
@[simp] theorem hmacEffect_timeLo : (hmacEffect s).timeLo = s.timeLo := rfl
@[simp] theorem hmacEffect_ctrHi : (hmacEffect s).ctrHi = s.ctrHi := rfl
@[simp] theorem hmacEffect_ctrLo : (hmacEffect s).ctrLo = s.ctrLo := rfl
@[simp] theorem hmacEffect_key : (hmacEffect s).key = s.key := rfl
@[simp] theorem hmacEffect_cblk : (hmacEffect s).cblk = s.cblk := rfl
@[simp] theorem hmacEffect_mac : (hmacEffect s).mac = hmacSha1 (keyBytes s) s.cblk.toList := rfl
@[simp] theorem hmacEffect_truncOff : (hmacEffect s).truncOff = s.truncOff := rfl
@[simp] theorem hmacEffect_dbc : (hmacEffect s).dbc = s.dbc := rfl
@[simp] theorem hmacEffect_code : (hmacEffect s).code = s.code := rfl
@[simp] theorem hmacEffect_dig : (hmacEffect s).dig = s.dig := rfl
@[simp] theorem hmacEffect_pendOp : (hmacEffect s).pendOp = s.pendOp := rfl
@[simp] theorem hmacEffect_pendAcl : (hmacEffect s).pendAcl = s.pendAcl := rfl
@[simp] theorem hmacEffect_inReset : (hmacEffect s).inReset = s.inReset := rfl
@[simp] theorem hmacEffect_events : (hmacEffect s).events = s.events := rfl
@[simp] theorem hmacEffect_resp : (hmacEffect s).resp = s.resp := rfl
@[simp] theorem hmacEffect_turn : (hmacEffect s).turn = s.turn := rfl

/-! ### `truncEffect` -/

@[simp] theorem truncEffect_doneIe : (truncEffect s).doneIe = s.doneIe := rfl
@[simp] theorem truncEffect_errIe : (truncEffect s).errIe = s.errIe := rfl
@[simp] theorem truncEffect_keyAutoclr : (truncEffect s).keyAutoclr = s.keyAutoclr := rfl
@[simp] theorem truncEffect_busy : (truncEffect s).busy = s.busy := rfl
@[simp] theorem truncEffect_done : (truncEffect s).done = s.done := rfl
@[simp] theorem truncEffect_err : (truncEffect s).err = s.err := rfl
@[simp] theorem truncEffect_errcode : (truncEffect s).errcode = s.errcode := rfl
@[simp] theorem truncEffect_keylen : (truncEffect s).keylen = s.keylen := rfl
@[simp] theorem truncEffect_timeHi : (truncEffect s).timeHi = s.timeHi := rfl
@[simp] theorem truncEffect_timeLo : (truncEffect s).timeLo = s.timeLo := rfl
@[simp] theorem truncEffect_ctrHi : (truncEffect s).ctrHi = s.ctrHi := rfl
@[simp] theorem truncEffect_ctrLo : (truncEffect s).ctrLo = s.ctrLo := rfl
@[simp] theorem truncEffect_key : (truncEffect s).key = s.key := rfl
@[simp] theorem truncEffect_cblk : (truncEffect s).cblk = s.cblk := rfl
@[simp] theorem truncEffect_mac : (truncEffect s).mac = s.mac := rfl
@[simp] theorem truncEffect_truncOff : (truncEffect s).truncOff = truncOffset s.mac := rfl
@[simp] theorem truncEffect_dbc : (truncEffect s).dbc = extractDbc s.mac (truncOffset s.mac) := rfl
@[simp] theorem truncEffect_code : (truncEffect s).code = reduceCode (extractDbc s.mac (truncOffset s.mac)) := rfl
@[simp] theorem truncEffect_dig : (truncEffect s).dig = decimal6 (reduceCode (extractDbc s.mac (truncOffset s.mac))) := rfl
@[simp] theorem truncEffect_pendOp : (truncEffect s).pendOp = s.pendOp := rfl
@[simp] theorem truncEffect_pendAcl : (truncEffect s).pendAcl = s.pendAcl := rfl
@[simp] theorem truncEffect_inReset : (truncEffect s).inReset = s.inReset := rfl
@[simp] theorem truncEffect_events : (truncEffect s).events = s.events := rfl
@[simp] theorem truncEffect_resp : (truncEffect s).resp = s.resp := rfl
@[simp] theorem truncEffect_turn : (truncEffect s).turn = s.turn := rfl

/-! ### `zeroizeEffect` -/

@[simp] theorem zeroizeEffect_doneIe : (zeroizeEffect s).doneIe = s.doneIe := rfl
@[simp] theorem zeroizeEffect_errIe : (zeroizeEffect s).errIe = s.errIe := rfl
@[simp] theorem zeroizeEffect_keyAutoclr : (zeroizeEffect s).keyAutoclr = s.keyAutoclr := rfl
@[simp] theorem zeroizeEffect_busy : (zeroizeEffect s).busy = s.busy := rfl
@[simp] theorem zeroizeEffect_done : (zeroizeEffect s).done = s.done := rfl
@[simp] theorem zeroizeEffect_err : (zeroizeEffect s).err = s.err := rfl
@[simp] theorem zeroizeEffect_errcode : (zeroizeEffect s).errcode = s.errcode := rfl
@[simp] theorem zeroizeEffect_keylen : (zeroizeEffect s).keylen = 0#8 := rfl
@[simp] theorem zeroizeEffect_timeHi : (zeroizeEffect s).timeHi = 0#32 := rfl
@[simp] theorem zeroizeEffect_timeLo : (zeroizeEffect s).timeLo = 0#32 := rfl
@[simp] theorem zeroizeEffect_ctrHi : (zeroizeEffect s).ctrHi = 0#32 := rfl
@[simp] theorem zeroizeEffect_ctrLo : (zeroizeEffect s).ctrLo = 0#32 := rfl
@[simp] theorem zeroizeEffect_key : (zeroizeEffect s).key = Vector.replicate 128 0#8 := rfl
@[simp] theorem zeroizeEffect_cblk : (zeroizeEffect s).cblk = Vector.replicate 8 0#8 := rfl
@[simp] theorem zeroizeEffect_mac : (zeroizeEffect s).mac = Vector.replicate 20 0#8 := rfl
@[simp] theorem zeroizeEffect_truncOff : (zeroizeEffect s).truncOff = 0#4 := rfl
@[simp] theorem zeroizeEffect_dbc : (zeroizeEffect s).dbc = 0#31 := rfl
@[simp] theorem zeroizeEffect_code : (zeroizeEffect s).code = 0#20 := rfl
@[simp] theorem zeroizeEffect_dig : (zeroizeEffect s).dig = Vector.replicate 6 0#8 := rfl
@[simp] theorem zeroizeEffect_pendOp : (zeroizeEffect s).pendOp = s.pendOp := rfl
@[simp] theorem zeroizeEffect_pendAcl : (zeroizeEffect s).pendAcl = s.pendAcl := rfl
@[simp] theorem zeroizeEffect_inReset : (zeroizeEffect s).inReset = s.inReset := rfl
@[simp] theorem zeroizeEffect_events : (zeroizeEffect s).events = s.events := rfl
@[simp] theorem zeroizeEffect_resp : (zeroizeEffect s).resp = s.resp := rfl
@[simp] theorem zeroizeEffect_turn : (zeroizeEffect s).turn = s.turn := rfl

/-! ### `errorEvent`: only ERR and ERRCODE can change (R241) -/

@[simp] theorem errorEvent_doneIe (c : ErrorCode) : (errorEvent c s).doneIe = s.doneIe := by
  unfold errorEvent; split <;> rfl
@[simp] theorem errorEvent_errIe (c : ErrorCode) : (errorEvent c s).errIe = s.errIe := by
  unfold errorEvent; split <;> rfl
@[simp] theorem errorEvent_keyAutoclr (c : ErrorCode) : (errorEvent c s).keyAutoclr = s.keyAutoclr := by
  unfold errorEvent; split <;> rfl
@[simp] theorem errorEvent_busy (c : ErrorCode) : (errorEvent c s).busy = s.busy := by
  unfold errorEvent; split <;> rfl
@[simp] theorem errorEvent_done (c : ErrorCode) : (errorEvent c s).done = s.done := by
  unfold errorEvent; split <;> rfl
@[simp] theorem errorEvent_err (c : ErrorCode) : (errorEvent c s).err = true := by
  unfold errorEvent; split <;> simp_all
theorem errorEvent_errcode (c : ErrorCode) :
    (errorEvent c s).errcode = if s.err then s.errcode else errorCode c := by
  unfold errorEvent; split <;> rfl
@[simp] theorem errorEvent_keylen (c : ErrorCode) : (errorEvent c s).keylen = s.keylen := by
  unfold errorEvent; split <;> rfl
@[simp] theorem errorEvent_timeHi (c : ErrorCode) : (errorEvent c s).timeHi = s.timeHi := by
  unfold errorEvent; split <;> rfl
@[simp] theorem errorEvent_timeLo (c : ErrorCode) : (errorEvent c s).timeLo = s.timeLo := by
  unfold errorEvent; split <;> rfl
@[simp] theorem errorEvent_ctrHi (c : ErrorCode) : (errorEvent c s).ctrHi = s.ctrHi := by
  unfold errorEvent; split <;> rfl
@[simp] theorem errorEvent_ctrLo (c : ErrorCode) : (errorEvent c s).ctrLo = s.ctrLo := by
  unfold errorEvent; split <;> rfl
@[simp] theorem errorEvent_key (c : ErrorCode) : (errorEvent c s).key = s.key := by
  unfold errorEvent; split <;> rfl
@[simp] theorem errorEvent_cblk (c : ErrorCode) : (errorEvent c s).cblk = s.cblk := by
  unfold errorEvent; split <;> rfl
@[simp] theorem errorEvent_mac (c : ErrorCode) : (errorEvent c s).mac = s.mac := by
  unfold errorEvent; split <;> rfl
@[simp] theorem errorEvent_truncOff (c : ErrorCode) : (errorEvent c s).truncOff = s.truncOff := by
  unfold errorEvent; split <;> rfl
@[simp] theorem errorEvent_dbc (c : ErrorCode) : (errorEvent c s).dbc = s.dbc := by
  unfold errorEvent; split <;> rfl
@[simp] theorem errorEvent_code (c : ErrorCode) : (errorEvent c s).code = s.code := by
  unfold errorEvent; split <;> rfl
@[simp] theorem errorEvent_dig (c : ErrorCode) : (errorEvent c s).dig = s.dig := by
  unfold errorEvent; split <;> rfl
@[simp] theorem errorEvent_pendOp (c : ErrorCode) : (errorEvent c s).pendOp = s.pendOp := by
  unfold errorEvent; split <;> rfl
@[simp] theorem errorEvent_pendAcl (c : ErrorCode) : (errorEvent c s).pendAcl = s.pendAcl := by
  unfold errorEvent; split <;> rfl
@[simp] theorem errorEvent_inReset (c : ErrorCode) : (errorEvent c s).inReset = s.inReset := by
  unfold errorEvent; split <;> rfl
@[simp] theorem errorEvent_events (c : ErrorCode) : (errorEvent c s).events = s.events := by
  unfold errorEvent; split <;> rfl
@[simp] theorem errorEvent_resp (c : ErrorCode) : (errorEvent c s).resp = s.resp := by
  unfold errorEvent; split <;> rfl
@[simp] theorem errorEvent_turn (c : ErrorCode) : (errorEvent c s).turn = s.turn := by
  unfold errorEvent; split <;> rfl

end Sys2Proof.Machine
end

