-- ==== Sys2Proof/Laws/Exec.lean ====
section
/-! SUPPORT. What `exec` answers, said once for each turn: the host's turn never stops, and the core's turn completes the
pending command or faults. -/

namespace Sys2Proof.Machine

/-- What the CMD write of `i` makes of the state (R130, R131). -/
def presented (i : Instr) (s : State) : State :=
  match i with
  | .nop => nopEffect s
  | .sreset => softReset s
  | .reserved9 | .reservedA | .reservedB | .reservedC | .reservedD | .reservedE => rejectIllegal s
  | .tstep | .encode | .hmac | .trunc | .hotp | .totp | .keyclr | .zeroize => acceptCommand (opcode i) s

/-- The effect the completion step of `i` applies before AutoClear (R135); the commands that never become pending have
none. -/
def commandEffect (i : Instr) (s : State) : State :=
  match i with
  | .tstep => tstepEffect s
  | .encode => encodeEffect s
  | .hmac => hmacEffect s
  | .trunc => truncEffect s
  | .hotp => hotpEffect s
  | .totp => totpEffect s
  | .keyclr => clearKey s
  | .zeroize => zeroizeEffect s
  | .nop | .sreset | .reserved9 | .reservedA | .reservedB | .reservedC | .reservedD | .reservedE => s

/-- The commands that become pending: opcodes 0x1 to 0x8 (R130). -/
def becomesPending (i : Instr) : Bool := decide (1 ≤ (opcode i).toNat) && decide ((opcode i).toNat ≤ 8)

/-- The state a completion step of `i` leaves (R135). -/
def completed (i : Instr) (s : State) : State := finishCommand (autoClear (opcode i) (commandEffect i s))

theorem exec_host (i : Instr) (s : State) (h : s.turn = .host) : exec i s = .next (presented i s) := by
  cases i <;>
    simp [exec, execNop, execTstep, execEncode, execHmac, execTrunc, execHotp, execTotp, execKeyclr, execZeroize,
      execSreset, execReserved9, execReservedA, execReservedB, execReservedC, execReservedD, execReservedE,
      lifeCycle, immediate, h, presented, opcode]

theorem exec_core (i : Instr) (s : State) (h : s.turn = .core) :
    exec i s =
      if becomesPending i = true ∧ s.busy = true ∧ s.pendOp = opcode i then .next (completed i s)
      else .fault .completionNotEnabled := by
  cases i <;>
    simp [exec, execNop, execTstep, execEncode, execHmac, execTrunc, execHotp, execTotp, execKeyclr, execZeroize,
      execSreset, execReserved9, execReservedA, execReservedB, execReservedC, execReservedD, execReservedE,
      lifeCycle, immediate, completeCommand, h, becomesPending, completed, commandEffect, opcode]

theorem exec_pending (i : Instr) (s : State) (h : s.turn = .core) (hp : becomesPending i = true)
    (hb : s.busy = true) (ho : s.pendOp = opcode i) : exec i s = .next (completed i s) := by
  rw [exec_core i s h, if_pos ⟨hp, hb, ho⟩]

end Sys2Proof.Machine
end

