-- ==== Sys2Proof/Laws/Step.lean ====
section
/-! SUPPORT. What a step can do, said once: a host access always answers a next state (`hostStep_eq`), a completion step
completes the pending command or is not enabled (`coreStep_eq`), and `step_cases` lists every way a step answers a next
state. -/

namespace Sys2Proof.Machine

/-- `s` with its first event taken. -/
def popped (s : State) : State := { s with events := s.events.tail }

/-- What a write of `v` to CMD makes of the state, in the host's turn (R131). -/
def cmdWritten (v : Word) (s : State) : State :=
  match decode v with
  | .ok i => presented i s
  | .error _ => rejectIllegal s

/-- What a write of `v` to a register makes of the state, in the host's turn (R71). -/
def written (r : Reg) (v : Word) (s : State) : State :=
  match r with
  | .id | .cblk _ | .mac _ | .truncOff | .dbc | .code | .digits _ => s
  | .ctrl => writeCtrl v s
  | .status => writeStatus v s
  | .cmd => cmdWritten v s
  | .keylen => frozenWrite (storeKeylen v) s
  | .timeHi => frozenWrite (storeTimeHi v) s
  | .timeLo => frozenWrite (storeTimeLo v) s
  | .ctrHi => frozenWrite (storeCtrHi v) s
  | .ctrLo => frozenWrite (storeCtrLo v) s
  | .keyW i => frozenWrite (storeKey i v) s

/-- What a host access makes of the state (R70, R71). -/
def accessed (a : Access) (s : State) : State :=
  match a.dir, accessReg a.off a.size with
  | .read, _ => { s with resp := memRead s a.off a.size, turn := .host }
  | .write v, some r => written r v { s with resp := .okay, turn := .host }
  | .write _, none => { s with resp := .slverr, turn := .host }

/-- The completion step is enabled (R135, R271). -/
def coreEnabled (s : State) : Bool := s.busy && !s.inReset

theorem cmdWrite_eq (v : Word) (s : State) (h : s.turn = .host) : cmdWrite v s = .next (cmdWritten v s) := by
  unfold cmdWrite cmdWritten
  cases decode v with
  | ok i => exact exec_host i s h
  | error e => rfl

theorem regWrite_eq (r : Reg) (v : Word) (s : State) (h : s.turn = .host) : regWrite r v s = .next (written r v s) := by
  cases r <;> first | rfl | exact cmdWrite_eq v s h

theorem hostStep_eq (a : Access) (s : State) : hostStep a s = .next (accessed a s) := by
  obtain ⟨off, size, dir⟩ := a
  cases dir with
  | read => rfl
  | write v =>
    simp only [hostStep, memWrite, accessed]
    cases hr : accessReg off size with
    | none => rfl
    | some r => exact regWrite_eq r v _ rfl

theorem coreStep_eq (s : State) :
    coreStep s =
      if coreEnabled s = true then
        if becomesPending (instrOfOp s.pendOp) = true then .next (completed (instrOfOp s.pendOp) { s with turn := .core })
        else .fault .completionNotEnabled
      else .next s := by
  unfold coreStep coreEnabled
  split
  · rename_i h
    simp only [Bool.and_eq_true] at h
    rw [exec_core _ _ rfl]
    simp [opcode_instrOfOp, h.1]
  · rfl

theorem coreStep_enabled (s : State) (h : coreEnabled s = true) (hp : becomesPending (instrOfOp s.pendOp) = true) :
    coreStep s = .next (completed (instrOfOp s.pendOp) { s with turn := .core }) := by
  rw [coreStep_eq, if_pos h, if_pos hp]

theorem coreStep_idle (s : State) (h : coreEnabled s = false) : coreStep s = .next s := by
  rw [coreStep_eq, if_neg (by simp [h])]

theorem step_nil (s : State) (h : s.events = []) : step s = coreStep s := by
  simp [step, nextStep, h]

theorem step_cons (s : State) (e : Event) (rest : List Event) (h : s.events = e :: rest) :
    step s = takeEvent e { s with events := rest } := by
  simp [step, nextStep, h]

theorem takeEvent_access (a : Access) (s : State) (h : s.inReset = false) :
    takeEvent (.access a) s = .next (accessed a s) := by
  simp [takeEvent, h, hostStep_eq]

/-- A read of a mapped register at its own offset (R70). -/
theorem memRead_offset (s : State) (r : Reg) : memRead s (Reg.offset r) 4 = .data (regRead s r) := by
  simp [memRead, accessReg]

/-- A write to a mapped register at its own offset (R71). -/
theorem accessed_offset (s : State) (r : Reg) (v : Word) :
    accessed { off := Reg.offset r, size := 4, dir := .write v } s =
      written r v { s with resp := .okay, turn := .host } := by
  simp [accessed, accessReg]

/-- Every way a step answers a next state (R10, R82). -/
theorem step_cases {s t : State} (h : step s = .next t) :
    (coreEnabled s = false ∧ (s.events = [] ∨ s.events.head? = some .complete) ∧ t = popped s) ∨
    (coreEnabled s = true ∧ (s.events = [] ∨ s.events.head? = some .complete) ∧
      becomesPending (instrOfOp s.pendOp) = true ∧
      t = completed (instrOfOp s.pendOp) { popped s with turn := .core }) ∨
    (∃ a, s.events.head? = some (.access a) ∧ s.inReset = false ∧ t = accessed a (popped s)) ∨
    (s.events.head? = some .assertReset ∧ t = assertReset (popped s)) ∨
    (s.events.head? = some .releaseReset ∧ t = releaseReset (popped s)) := by
  have core : ∀ u : State, u.busy = s.busy → u.inReset = s.inReset → u.pendOp = s.pendOp → coreStep u = .next t →
      (coreEnabled s = false ∧ t = u) ∨
      (coreEnabled s = true ∧ becomesPending (instrOfOp s.pendOp) = true ∧
        t = completed (instrOfOp s.pendOp) { u with turn := .core }) := by
    intro u hb hr hp hu
    have he : coreEnabled u = coreEnabled s := by simp [coreEnabled, hb, hr]
    have hi : instrOfOp u.pendOp = instrOfOp s.pendOp := by rw [hp]
    rw [coreStep_eq, he, hi] at hu
    split at hu
    · rename_i hen
      split at hu
      · rename_i hbp
        cases hu
        exact .inr ⟨hen, hbp, rfl⟩
      · cases hu
    · rename_i hen
      cases hu
      exact .inl ⟨by simpa using hen, rfl⟩
  cases he : s.events with
  | nil =>
    have hs : popped s = s := by cases s; simp_all [popped]
    rw [step_nil s he] at h
    obtain ⟨h1, h2⟩ | ⟨h1, h2, h3⟩ := core s rfl rfl rfl h
    · exact .inl ⟨h1, .inl rfl, by rw [hs]; exact h2⟩
    · exact .inr (.inl ⟨h1, .inl rfl, h2, by rw [hs]; exact h3⟩)
  | cons e rest =>
    have hs : popped s = { s with events := rest } := by simp [popped, he]
    rw [step_cons s e rest he, ← hs] at h
    cases e with
    | complete =>
      obtain ⟨h1, h2⟩ | ⟨h1, h2, h3⟩ := core (popped s) rfl rfl rfl h
      · exact .inl ⟨h1, .inr rfl, h2⟩
      · exact .inr (.inl ⟨h1, .inr rfl, h2, h3⟩)
    | access a =>
      unfold takeEvent at h
      by_cases hr : s.inReset = true
      · simp [popped, hr] at h
      · simp only [popped, hr] at h
        rw [if_neg (by simp), hostStep_eq] at h
        exact .inr (.inr (.inl ⟨a, rfl, by simpa using hr, by simpa [popped, hr] using h.symm⟩))
    | assertReset => exact .inr (.inr (.inr (.inl ⟨rfl, by simpa [takeEvent] using h.symm⟩)))
    | releaseReset => exact .inr (.inr (.inr (.inr ⟨rfl, by simpa [takeEvent] using h.symm⟩)))

end Sys2Proof.Machine
end

