-- ==== Sys2Proof/Laws/Frame.lean ====
section
/-! SUPPORT. Frames of the shared operations: the reset input and the model's own fields pass through every command, and
which parts of the core a CMD write, an operand write and a completion can touch. -/

namespace Sys2Proof.Machine

variable (i : Instr) (r : Reg) (v : Word) (s : State)

@[simp] theorem rejectIllegal_inReset : (rejectIllegal s).inReset = s.inReset := by simp [rejectIllegal]

@[simp] theorem acceptCommand_inReset (op : Op) : (acceptCommand op s).inReset = s.inReset := by
  unfold acceptCommand; split <;> (try split) <;> simp

@[simp] theorem presented_inReset : (presented i s).inReset = s.inReset := by
  cases i <;> simp [presented, nopEffect]
  split <;> simp

@[simp] theorem cmdWritten_inReset : (cmdWritten v s).inReset = s.inReset := by
  unfold cmdWritten; split <;> simp

@[simp] theorem writeStatus_inReset : (writeStatus v s).inReset = s.inReset := by
  unfold writeStatus; dsimp only; split <;> split <;> simp

@[simp] theorem written_inReset : (written r v s).inReset = s.inReset := by
  cases r <;> simp [written, frozenWrite] <;> split <;> simp

@[simp] theorem autoClear_inReset (op : Op) : (autoClear op s).inReset = s.inReset := by
  unfold autoClear; split <;> simp

@[simp] theorem completed_inReset : (completed i s).inReset = s.inReset := by
  cases i <;> simp [completed, commandEffect, hotpEffect, totpEffect]

@[simp] theorem rejectIllegal_events : (rejectIllegal s).events = s.events := by simp [rejectIllegal]

@[simp] theorem acceptCommand_events (op : Op) : (acceptCommand op s).events = s.events := by
  unfold acceptCommand; split <;> (try split) <;> simp

@[simp] theorem presented_events : (presented i s).events = s.events := by
  cases i <;> simp [presented, nopEffect]
  split <;> simp

@[simp] theorem cmdWritten_events : (cmdWritten v s).events = s.events := by
  unfold cmdWritten; split <;> simp

@[simp] theorem writeStatus_events : (writeStatus v s).events = s.events := by
  unfold writeStatus; dsimp only; split <;> split <;> simp

@[simp] theorem written_events : (written r v s).events = s.events := by
  cases r <;> simp [written, frozenWrite] <;> split <;> simp

@[simp] theorem autoClear_events (op : Op) : (autoClear op s).events = s.events := by
  unfold autoClear; split <;> simp

@[simp] theorem completed_events : (completed i s).events = s.events := by
  cases i <;> simp [completed, commandEffect, hotpEffect, totpEffect]

@[simp] theorem rejectIllegal_resp : (rejectIllegal s).resp = s.resp := by simp [rejectIllegal]

@[simp] theorem acceptCommand_resp (op : Op) : (acceptCommand op s).resp = s.resp := by
  unfold acceptCommand; split <;> (try split) <;> simp

@[simp] theorem presented_resp : (presented i s).resp = s.resp := by
  cases i <;> simp [presented, nopEffect]
  split <;> simp

@[simp] theorem cmdWritten_resp : (cmdWritten v s).resp = s.resp := by
  unfold cmdWritten; split <;> simp

@[simp] theorem writeStatus_resp : (writeStatus v s).resp = s.resp := by
  unfold writeStatus; dsimp only; split <;> split <;> simp

@[simp] theorem written_resp : (written r v s).resp = s.resp := by
  cases r <;> simp [written, frozenWrite] <;> split <;> simp

@[simp] theorem autoClear_resp (op : Op) : (autoClear op s).resp = s.resp := by
  unfold autoClear; split <;> simp

@[simp] theorem completed_resp : (completed i s).resp = s.resp := by
  cases i <;> simp [completed, commandEffect, hotpEffect, totpEffect]

@[simp] theorem rejectIllegal_turn : (rejectIllegal s).turn = s.turn := by simp [rejectIllegal]

@[simp] theorem acceptCommand_turn (op : Op) : (acceptCommand op s).turn = s.turn := by
  unfold acceptCommand; split <;> (try split) <;> simp

@[simp] theorem presented_turn : (presented i s).turn = s.turn := by
  cases i <;> simp [presented, nopEffect]
  split <;> simp

@[simp] theorem cmdWritten_turn : (cmdWritten v s).turn = s.turn := by
  unfold cmdWritten; split <;> simp

@[simp] theorem writeStatus_turn : (writeStatus v s).turn = s.turn := by
  unfold writeStatus; dsimp only; split <;> split <;> simp

@[simp] theorem written_turn : (written r v s).turn = s.turn := by
  cases r <;> simp [written, frozenWrite] <;> split <;> simp

@[simp] theorem autoClear_turn (op : Op) : (autoClear op s).turn = s.turn := by
  unfold autoClear; split <;> simp

@[simp] theorem completed_turn : (completed i s).turn = s.turn := by
  cases i <;> simp [completed, commandEffect, hotpEffect, totpEffect]

end Sys2Proof.Machine
end

