-- ==== Sys2Proof/Laws/PerInstr.lean ====
section
/-! SUPPORT. The family `Encoding`: what the word of every row of the opcode table looks like, one lemma for each
constructor. -/

open Sys2Proof

/-- The word of `i` is the row's: RSV is 0, OP is the row's opcode, the OP selects `i` again, and the term is well formed
(R101, R105, R107). -/
def Sys2Proof.Laws.Encoding.Statement (i : Instr) : Prop :=
  i.wellFormed = true ∧ rsvField (encode i) = 0#28 ∧ opField (encode i) = opcode i ∧
    (encode i).toNat = (opcode i).toNat ∧ instrOfOp (opcode i) = i

theorem Sys2Proof.Laws.Encoding.nop : Sys2Proof.Laws.Encoding.Statement .nop := by
  unfold Sys2Proof.Laws.Encoding.Statement
  decide

theorem Sys2Proof.Laws.Encoding.tstep : Sys2Proof.Laws.Encoding.Statement .tstep := by
  unfold Sys2Proof.Laws.Encoding.Statement
  decide

theorem Sys2Proof.Laws.Encoding.encode : Sys2Proof.Laws.Encoding.Statement .encode := by
  unfold Sys2Proof.Laws.Encoding.Statement
  decide

theorem Sys2Proof.Laws.Encoding.hmac : Sys2Proof.Laws.Encoding.Statement .hmac := by
  unfold Sys2Proof.Laws.Encoding.Statement
  decide

theorem Sys2Proof.Laws.Encoding.trunc : Sys2Proof.Laws.Encoding.Statement .trunc := by
  unfold Sys2Proof.Laws.Encoding.Statement
  decide

theorem Sys2Proof.Laws.Encoding.hotp : Sys2Proof.Laws.Encoding.Statement .hotp := by
  unfold Sys2Proof.Laws.Encoding.Statement
  decide

theorem Sys2Proof.Laws.Encoding.totp : Sys2Proof.Laws.Encoding.Statement .totp := by
  unfold Sys2Proof.Laws.Encoding.Statement
  decide

theorem Sys2Proof.Laws.Encoding.keyclr : Sys2Proof.Laws.Encoding.Statement .keyclr := by
  unfold Sys2Proof.Laws.Encoding.Statement
  decide

theorem Sys2Proof.Laws.Encoding.zeroize : Sys2Proof.Laws.Encoding.Statement .zeroize := by
  unfold Sys2Proof.Laws.Encoding.Statement
  decide

theorem Sys2Proof.Laws.Encoding.sreset : Sys2Proof.Laws.Encoding.Statement .sreset := by
  unfold Sys2Proof.Laws.Encoding.Statement
  decide

theorem Sys2Proof.Laws.Encoding.reserved9 : Sys2Proof.Laws.Encoding.Statement .reserved9 := by
  unfold Sys2Proof.Laws.Encoding.Statement
  decide

theorem Sys2Proof.Laws.Encoding.reservedA : Sys2Proof.Laws.Encoding.Statement .reservedA := by
  unfold Sys2Proof.Laws.Encoding.Statement
  decide

theorem Sys2Proof.Laws.Encoding.reservedB : Sys2Proof.Laws.Encoding.Statement .reservedB := by
  unfold Sys2Proof.Laws.Encoding.Statement
  decide

theorem Sys2Proof.Laws.Encoding.reservedC : Sys2Proof.Laws.Encoding.Statement .reservedC := by
  unfold Sys2Proof.Laws.Encoding.Statement
  decide

theorem Sys2Proof.Laws.Encoding.reservedD : Sys2Proof.Laws.Encoding.Statement .reservedD := by
  unfold Sys2Proof.Laws.Encoding.Statement
  decide

theorem Sys2Proof.Laws.Encoding.reservedE : Sys2Proof.Laws.Encoding.Statement .reservedE := by
  unfold Sys2Proof.Laws.Encoding.Statement
  decide
end

