-- ==== Sys2Proof/Laws/Sha1.lean ====
section
/-! SUPPORT. The sizes the hash works with, and the parts of SHA-1 that a proof reads one at a time. -/

namespace Sys2Proof.Machine

@[simp] theorem pad_length (m : List Byte) : (pad m).length = m.length + 1 + padZeros m.length + 8 := by
  simp [pad]
  omega

@[simp] theorem splitBlocks_length (n : Nat) (m : List Byte) : (splitBlocks n m).length = n := by
  induction n generalizing m with
  | zero => rfl
  | succ n ih => simp [splitBlocks, ih]

/-- Block `i` of a message starts at byte `64 * i` (R172). -/
theorem splitBlocks_eq_map (n : Nat) (m : List Byte) :
    splitBlocks n m = (List.range n).map fun i => (m.drop (64 * i)).take 64 := by
  induction n generalizing m with
  | zero => rfl
  | succ n ih =>
    rw [List.range_succ_eq_map, List.map_cons, List.map_map, splitBlocks, ih]
    simp [Function.comp_def, Nat.mul_add, Nat.add_comm]

@[simp] theorem extendSchedule_length (n : Nat) (ws : List Word) : (extendSchedule n ws).length = n + ws.length := by
  induction n generalizing ws with
  | zero => simp [extendSchedule]
  | succ n ih =>
    rw [extendSchedule, ih, List.length_cons]
    omega

/-- The words a schedule starts from stand at its end, latest first (R174). -/
theorem extendSchedule_keeps (n : Nat) (ws : List Word) (i : Nat) :
    (extendSchedule n ws).getD (n + i) 0#32 = ws.getD i 0#32 := by
  induction n generalizing ws i with
  | zero => simp [extendSchedule]
  | succ n ih =>
    rw [extendSchedule, show n + 1 + i = n + (i + 1) by omega, ih]
    simp

@[simp] theorem schedule_length (block : List Byte) : (schedule block).length = 80 := by simp [schedule]

/-- Byte `i` of a digest is byte `i mod 4` of its word `i div 4` (R177). -/
theorem digestBytes_getElem (h : Digest) (i : Nat) (hi : i < 20) :
    (digestBytes h)[i] = wordByte ([h.h0, h.h1, h.h2, h.h3, h.h4].getD (i / 4) 0#32) (i % 4) := by
  interval_cases i <;> rfl

theorem sha1_eq (m : List Byte) : sha1 m = digestBytes (sha1Digest m) := by unfold sha1; rfl

/-- `K'` never exceeds a block (R180). -/
theorem hmacKey_length_le (k : List Byte) : (hmacKey k).length ≤ 64 := by
  unfold hmacKey
  split <;> simp at *
  omega

/-- `K0` is always one block (R180). -/
@[simp] theorem hmacBlockKey_length (k : List Byte) : (hmacBlockKey k).length = 64 := by
  have := hmacKey_length_le k
  simp [hmacBlockKey]
  omega

end Sys2Proof.Machine
end

