-- ==== Sys2Proof/Tests/Slice0.lean ====
section
/-! SUPPORT. The model's own tests. Expected values come from the spec: the encodings of spec/30_encoding.md and the vectors
of spec/95_test_vectors.md, named in each comment. The last part shows, for every statement with hypotheses, a concrete
state that meets them. -/

open Sys2Proof Sys2Proof.Machine Sys2Proof.Claims

namespace Sys2Proof.Tests

/-- The state a step or a command answers, if it answers one. -/
def after (r : Result) : Option State :=
  match r with
  | .next t => some t
  | .fault _ | .refused _ => none

/-- A value of the state a step or a command answers. -/
def got {α : Type} (r : Result) (f : State → α) : Option α := (after r).map f

/-- The core's turn with the command `op` pending, from reset. -/
def pending (op : Op) : State := { State.reset with busy := true, pendOp := op, pendAcl := true, turn := .core }

/-- The reset state with a host write as the next step. -/
def writing (s : State) (off : Offset) (v : Word) : State := issue (wr off v) s

/-- STATUS as a read returns it. -/
def status (s : State) : Word := readStatus s

/-- "12345678901234567890", KRFC of spec/95. -/
def krfc : List Byte :=
  [0x31#8, 0x32#8, 0x33#8, 0x34#8, 0x35#8, 0x36#8, 0x37#8, 0x38#8, 0x39#8, 0x30#8,
   0x31#8, 0x32#8, 0x33#8, 0x34#8, 0x35#8, 0x36#8, 0x37#8, 0x38#8, 0x39#8, 0x30#8]

/-- `s` with a key loaded (R34, R104). -/
def withKey (k : List Byte) (s : State) : State :=
  { s with key := Vector.ofFn fun i => k.getD i.val 0#8, keylen := BitVec.ofNat 8 k.length }

/-- A tag from its five window words (R44). -/
def tag (w0 w1 w2 w3 w4 : Word) : Vector Byte 20 :=
  setWindowWord (setWindowWord (setWindowWord (setWindowWord (setWindowWord (Vector.replicate 20 0#8) 0 w0 (by decide))
    1 w1 (by decide)) 2 w2 (by decide)) 3 w3 (by decide)) 4 w4 (by decide)

/-- The five tag words as reads return them (R44). -/
def macWords (s : State) : List Nat := (List.finRange 5).map fun i => (readMac s i).toNat

/-- The two counter-block words (R43). -/
def cblkWords (s : State) : List Nat := (List.finRange 2).map fun i => (readCblk s i).toNat

/-- TRUNC_OFF, DBC, CODE, DIGITS_W0, DIGITS_W1 as reads return them. -/
def codes (s : State) : List Nat :=
  [s.truncOff.toNat, s.dbc.toNat, s.code.toNat, (readDigits s 0).toNat, (readDigits s 1).toNat]

/-! ### Well-formedness -/

/-- The table's commands have no ill-formed term (R101). -/
theorem test_every_command_is_well_formed : Instr.wellFormed .hotp = true ∧ Instr.wellFormed .reservedE = true := by decide

/-- E15: a 2-byte access. -/
theorem test_narrow_access_is_refused : Access.wellFormed { off := 0x000#12, size := 2, dir := .read } = false := by decide

/-- E15: a 4-byte access at offset 0x002. -/
theorem test_misaligned_access_is_refused : Access.wellFormed { off := 0x002#12, size := 4, dir := .read } = false := by decide

/-- E12, E13, E14: unmapped offsets; 0x054 and 0x17C are mapped. -/
theorem test_unmapped_access_is_refused :
    Access.mappedOk { off := 0x014#12, size := 4, dir := .read } = false ∧
    Access.mappedOk { off := 0x058#12, size := 4, dir := .read } = false ∧
    Access.mappedOk { off := 0x0FC#12, size := 4, dir := .read } = false ∧
    Access.mappedOk { off := 0x180#12, size := 4, dir := .read } = false ∧
    Access.mappedOk { off := 0xFFC#12, size := 4, dir := .read } = false ∧
    Access.mappedOk { off := 0x054#12, size := 4, dir := .read } = true ∧
    Access.mappedOk { off := 0x17C#12, size := 4, dir := .read } = true := by decide

/-- R111: a branch to a label that is not in the program. -/
theorem test_missing_label_is_refused : hostProgramOk [.rd 0x008#12, .bnz 1#32 3] = false := by decide

/-- R112: `ldkey` takes at most 128 bytes. -/
theorem test_long_ldkey_is_refused : ldkeyOk (List.replicate 129 0#8) = false ∧ ldkeyOk (List.replicate 128 0#8) = true := by
  decide +kernel

/-! ### Decoding: the words of R105, written out bit by bit -/

theorem test_decode_nop : decode 0b00000000000000000000000000000000#32 = .ok .nop := by decide
theorem test_decode_tstep : decode 0b00000000000000000000000000000001#32 = .ok .tstep := by decide
theorem test_decode_encode : decode 0b00000000000000000000000000000010#32 = .ok .encode := by decide
theorem test_decode_hmac : decode 0b00000000000000000000000000000011#32 = .ok .hmac := by decide
theorem test_decode_trunc : decode 0b00000000000000000000000000000100#32 = .ok .trunc := by decide
theorem test_decode_hotp : decode 0b00000000000000000000000000000101#32 = .ok .hotp := by decide
theorem test_decode_totp : decode 0b00000000000000000000000000000110#32 = .ok .totp := by decide
theorem test_decode_keyclr : decode 0b00000000000000000000000000000111#32 = .ok .keyclr := by decide
theorem test_decode_zeroize : decode 0b00000000000000000000000000001000#32 = .ok .zeroize := by decide
theorem test_decode_reserved9 : decode 0b00000000000000000000000000001001#32 = .ok .reserved9 := by decide
theorem test_decode_reservedA : decode 0b00000000000000000000000000001010#32 = .ok .reservedA := by decide
theorem test_decode_reservedB : decode 0b00000000000000000000000000001011#32 = .ok .reservedB := by decide
theorem test_decode_reservedC : decode 0b00000000000000000000000000001100#32 = .ok .reservedC := by decide
theorem test_decode_reservedD : decode 0b00000000000000000000000000001101#32 = .ok .reservedD := by decide
theorem test_decode_reservedE : decode 0b00000000000000000000000000001110#32 = .ok .reservedE := by decide
theorem test_decode_sreset : decode 0b00000000000000000000000000001111#32 = .ok .sreset := by decide

/-- E3, K7: RSV ≠ 0 is illegal, SRESET included (R107). -/
theorem test_decode_refuses_reserved_bits :
    decode 0x00000015#32 = .error (.reservedBitsSet 1#28) ∧ decode 0x0000001F#32 = .error (.reservedBitsSet 1#28) ∧
    decode 0x80000005#32 = .error (.reservedBitsSet 0x8000000#28) := by decide

/-- The table's numbering: bit 0 is the least significant bit of the word. -/
theorem test_decode_table_word : decodeTableWord 32 0x5 = some .hotp ∧ decodeTableWord 32 0x15 = none := by decide

/-- The map's offsets (R50). -/
theorem test_register_map :
    regAt 0x024#12 = some .ctrLo ∧ regAt 0x040#12 = some (.mac 4) ∧ regAt 0x17C#12 = some (.keyW 31) ∧
    regAt 0x014#12 = none ∧ regAt 0x180#12 = none ∧ regAt 0x022#12 = none := by decide

/-! ### One step each -/

/-- P1: the word of HOTP placed by `withFetchWord` is accepted by the very next step after reset. -/
theorem test_first_step_after_reset :
    got (step (State.reset.withFetchWord 32 0x5)) (fun t => (t.busy, t.pendOp, t.pendAcl, t.events)) =
      some (true, 0x5#4, true, []) := by decide

/-- K1, K2: NOP changes nothing, DONE included. -/
theorem test_nop_idle :
    got (exec .nop { State.reset with done := true }) (fun t => (status t, t.pendOp)) = some (0x2#32, 0#4) := by decide

/-- R222: NOP while busy. -/
theorem test_nop_busy : got (exec .nop { pending 0x5#4 with turn := .host }) status = some 0x305#32 := by decide

/-- 3.1: TIME = 59. -/
theorem test_tstep_59 :
    got (exec .tstep { pending 0x1#4 with timeLo := 0x3B#32 }) (fun t => (t.ctrHi, t.ctrLo, status t)) =
      some (0#32, 1#32, 0x2#32) := by decide

/-- 3.1: TIME = 2^64 - 1. -/
theorem test_tstep_largest :
    got (exec .tstep { pending 0x1#4 with timeHi := 0xFFFFFFFF#32, timeLo := 0xFFFFFFFF#32 }) (fun t => (t.ctrHi, t.ctrLo)) =
      some (0x08888888#32, 0x88888888#32) := by decide

/-- 3.2: CTR = 0x0123456789ABCDEF. -/
theorem test_encode :
    got (exec .encode { pending 0x2#4 with ctrHi := 0x01234567#32, ctrLo := 0x89ABCDEF#32 }) (fun t => t.cblk.toList) =
      some [0x01#8, 0x23#8, 0x45#8, 0x67#8, 0x89#8, 0xAB#8, 0xCD#8, 0xEF#8] := by decide

/-- 3.3: KRFC, counter 0, and AutoClear. -/
theorem test_hmac_krfc :
    got (exec .hmac (withKey krfc (pending 0x3#4))) (fun t => (macWords t, t.keylen, t.key[0])) =
      some ([0xcc93cf18, 0x508d9493, 0x4c64b65d, 0x8ba7667f, 0xb7cde4b0], 0#8, 0#8) := by decide +kernel

/-- 3.3: bytes 0x00 to 0x40, KEYLEN = 65, hashed first; the key is kept when PEND_ACL = 0. -/
theorem test_hmac_long_key :
    got (exec .hmac { withKey ((List.range 65).map (BitVec.ofNat 8)) (pending 0x3#4) with pendAcl := false })
      (fun t => (macWords t, t.keylen, t.key[64])) =
      some ([0xad4e7afa, 0x7e1eb662, 0x5ca48b39, 0xcd64a3fc, 0x312d087a], 65#8, 0x40#8) := by decide +kernel

/-- Section 2: SHA1("") and SHA1("abc"). -/
theorem test_sha1_known_answers :
    macWords { State.reset with mac := sha1 [] } = [0xda39a3ee, 0x5e6b4b0d, 0x3255bfef, 0x95601890, 0xafd80709] ∧
    macWords { State.reset with mac := sha1 [0x61#8, 0x62#8, 0x63#8] } =
      [0xa9993e36, 0x4706816a, 0xba3e2571, 0x7850c26c, 0x9cd0d89d] := by decide +kernel

/-- 3.4 T3: offset 0, top byte 0x80 masked, leading zeros. -/
theorem test_trunc_masks :
    got (exec .trunc { pending 0x4#4 with mac := tag 0x80000f42#32 0x3f000000#32 0#32 0#32 0#32 }) codes =
      some [0, 3906, 3906, 0x30303339, 0x30360000] := by decide

/-- 3.4 T4: offset 15 reads bytes 15 to 18, DBC = 10^6. -/
theorem test_trunc_offset_15 :
    got (exec .trunc { pending 0x4#4 with mac := tag 0#32 0#32 0#32 0x00000080#32 0x0f42400f#32 }) codes =
      some [15, 1000000, 0, 0x30303030, 0x30300000] := by decide

/-- 3.5: KRFC, CTR = 2. -/
theorem test_hotp :
    got (exec .hotp (withKey krfc { pending 0x5#4 with ctrLo := 2#32 })) (fun t => (cblkWords t, macWords t, codes t)) =
      some ([0, 2], [0x0bacb7fa, 0x082fef30, 0x78221193, 0x8bc1c5e7, 0x0416ff44],
        [4, 0x082FEF30, 359152, 0x33353931, 0x35320000]) := by decide +kernel

/-- 3.5: KRFC, TIME = 20000000000. -/
theorem test_totp :
    got (exec .totp (withKey krfc { pending 0x6#4 with timeHi := 4#32, timeLo := 0xA817C800#32 }))
      (fun t => (t.ctrLo, macWords t, codes t)) =
      some (0x27BC86AA#32, [0xab07e97e, 0x2c127876, 0x9dbcd757, 0x83aabde7, 0x5ed8550a],
        [10, 0x575783AA, 353130, 0x33353331, 0x33300000]) := by decide +kernel

/-- K4: KEYCLR clears a KEYLEN of 200. -/
theorem test_keyclr :
    got (exec .keyclr { withKey krfc (pending 0x7#4) with keylen := 200#8 }) (fun t => (t.keylen, t.key[0], status t)) =
      some (0#8, 0#8, 0x2#32) := by decide

/-- K5: ZEROIZE keeps CTRL and the error, sets DONE. -/
theorem test_zeroize :
    got (exec .zeroize { pending 0x8#4 with keyAutoclr := false, err := true, errcode := 3#4, code := 5#20, ctrLo := 7#32 })
      (fun t => (readCtrl t, status t, t.code, t.ctrLo)) = some (0#32, 0x306#32, 0#20, 0#32) := by decide

/-- K6: SRESET while busy. -/
theorem test_sreset :
    got (exec .sreset { pending 0x5#4 with turn := .host, keyAutoclr := false, err := true, errcode := 1#4, ctrLo := 9#32 })
      (fun t => (readCtrl t, status t, t.ctrLo, t.pendOp)) = some (4#32, 0#32, 0#32, 0#4) := by decide

/-- E1: a reserved opcode while idle. -/
theorem test_reserved9 : got (exec .reserved9 State.reset) status = some 0x104#32 := by decide

/-- R106: a reserved opcode while idle keeps DONE and the first error. -/
theorem test_reservedA :
    got (exec .reservedA { State.reset with done := true, err := true, errcode := 3#4 }) status = some 0x306#32 := by decide

/-- R106: a reserved opcode while busy. -/
theorem test_reservedB : got (exec .reservedB { pending 0x1#4 with turn := .host }) status = some 0x305#32 := by decide

theorem test_reservedC : got (exec .reservedC State.reset) status = some 0x104#32 := by decide
theorem test_reservedD : got (exec .reservedD State.reset) status = some 0x104#32 := by decide

/-- E2. -/
theorem test_reservedE : got (exec .reservedE State.reset) status = some 0x104#32 := by decide

/-- E3: the word 0x15. -/
theorem test_write_of_word_0x15 :
    got (step (writing State.reset 0x00C#12 0x15#32)) (fun t => (t.resp, status t)) = some (.okay, 0x104#32) := by decide

/-- E4, E5: KEYLEN 129 and 128. -/
theorem test_keylen_range :
    got (step (writing { State.reset with keylen := 129#8 } 0x00C#12 3#32)) status = some 0x204#32 ∧
    got (step (writing { State.reset with keylen := 128#8 } 0x00C#12 3#32)) status = some 0x1#32 := by decide

/-- E8: CTR_LO while busy. -/
theorem test_busy_operand_write :
    got (step (writing (pending 0x5#4) 0x024#12 7#32)) (fun t => (t.resp, t.ctrLo, status t)) =
      some (.okay, 0#32, 0x305#32) := by decide

/-- E9: CTRL while busy. -/
theorem test_ctrl_while_busy :
    got (step (writing (pending 0x5#4) 0x004#12 3#32)) (fun t => (readCtrl t, t.pendAcl)) = some (3#32, true) := by decide

/-- E12: a read of 0x014. -/
theorem test_unmapped_read : got (step (issue (rd 0x014#12) State.reset)) State.resp = some .slverr := by decide

/-- E19: W1C per bit. -/
theorem test_status_w1c :
    got (step (writing { State.reset with done := true, err := true, errcode := 2#4 } 0x008#12 2#32)) status =
      some 0x204#32 := by decide

/-- E21: KEYLEN keeps bits 7..0. -/
theorem test_keylen_write :
    got (step (writing State.reset 0x010#12 0x180#32)) (fun t => memRead t 0x010#12 4) = some (.data 0x80#32) := by decide

/-- R42: "1234" written to KEY_W0. -/
theorem test_key_write :
    got (step (writing State.reset 0x100#12 0x31323334#32)) (fun t => (t.key[0], t.key[3], memRead t 0x100#12 4)) =
      some (0x31#8, 0x34#8, .data 0#32) := by decide

/-! ### Witnesses: a state and operands that meet the hypotheses of each statement -/

/-- The host's turn with the command `op` pending. -/
def busy (op : Op) : State := { pending op with turn := .host }

/-- The condition of `BusErrorsAreSizeAlignmentMapping`, as a Bool. -/
def named (a : Access) : Bool :=
  a.size ≠ 4 || a.off.toNat % 4 ≠ 0 || a.off.toNat == 0x014 || (0x058 ≤ a.off.toNat && a.off.toNat ≤ 0x0FC) ||
    (0x180 ≤ a.off.toNat && a.off.toNat ≤ 0xFFC)

/-- Both cases of RSV, at its boundary. -/
theorem witness_ExactlyTenWordsAreCommands : (0x10#32).toNat / 16 ≠ 0 ∧ (0x0F#32).toNat / 16 = 0 := by decide

/-- Every named condition at the ends of its range, and the mapped offsets beside them. -/
theorem witness_BusErrorsAreSizeAlignmentMapping :
    State.reset.inReset = false ∧
    ([⟨0x000#12, 2, .read⟩, ⟨0x002#12, 4, .read⟩, ⟨0x014#12, 4, .read⟩, ⟨0x058#12, 4, .write 1#32⟩, ⟨0x0FC#12, 4, .read⟩,
      ⟨0x180#12, 4, .read⟩, ⟨0xFFC#12, 4, .read⟩] : List Access).all named = true ∧
    ([⟨0x000#12, 4, .read⟩, ⟨0x010#12, 4, .read⟩, ⟨0x018#12, 4, .read⟩, ⟨0x054#12, 4, .read⟩, ⟨0x100#12, 4, .write 1#32⟩,
      ⟨0x17C#12, 4, .read⟩] : List Access).all (fun a => !named a) = true := by decide

theorem witness_ReadsHaveNoSideEffect : State.reset.inReset = false := by decide

theorem witness_CtrlWriteKeepsThreeBits : State.reset.inReset = false ∧ (pending 0x5#4).inReset = false := by decide

theorem witness_StatusWritesClearByOneAndReadsPack : State.reset.inReset = false ∧ (pending 0x5#4).inReset = false := by decide

theorem witness_ReadOnlyWritesAreIgnored :
    State.reset.inReset = false ∧ (0x000#12).toNat = 0x000 ∧ (0x028 ≤ (0x028#12).toNat ∧ (0x028#12).toNat % 4 = 0) ∧
    ((0x054#12).toNat ≤ 0x054 ∧ (0x054#12).toNat % 4 = 0) := by decide

theorem witness_IdleOperandWritesStore : State.reset.inReset = false ∧ State.reset.busy = false := by decide

/-- The first and the last key word. -/
theorem witness_IdleKeyWriteSetsFourBytes :
    State.reset.inReset = false ∧ State.reset.busy = false ∧ 0 < 32 ∧ 31 < 32 := by decide

/-- Busy and idle, with each kind of frozen offset at its ends. -/
theorem witness_BusyOperandWritesAreFrozen :
    (busy 0x5#4).inReset = false ∧ (busy 0x5#4).busy = true ∧ State.reset.busy = false ∧
    FrozenOffset 0x010#12 ∧ FrozenOffset 0x024#12 ∧ FrozenOffset 0x100#12 ∧ FrozenOffset 0x17C#12 := by
  unfold FrozenOffset
  decide

theorem witness_StepRunsTheDecodedCommand :
    State.reset.inReset = false ∧ Instr.wellFormed .totp = true ∧ decode 0x00000006#32 = .ok .totp := by decide

/-- Enabled, with nothing else to come; idle; and held in reset. -/
theorem witness_CompletionStepRunsThePendingCommand :
    (busy 0x4#4).inReset = false ∧ (busy 0x4#4).busy = true ∧ (busy 0x4#4).pendOp = opcode .trunc ∧
    (busy 0x4#4).events = [] ∧ State.reset.busy = false ∧ (assertReset State.reset).inReset = true := by decide

theorem witness_CmdWriteFollowsTheAcceptanceOrder : State.reset.inReset = false ∧ (busy 0x5#4).inReset = false := by decide

/-- A keyed command with the longest legal key, and a command that does not check it. -/
theorem witness_AcceptanceStartsTheCommand :
    Pends .hotp ∧ Pends .trunc ∧ State.reset.turn = .host ∧ ({ State.reset with keylen := 128#8 } : State).busy = false ∧
    ({ State.reset with keylen := 128#8 } : State).keylen.toNat ≤ 128 := by
  unfold Pends
  decide

/-- KEYLEN at its smallest illegal value, with a keyed command and with one that is not. -/
theorem witness_LongKeyFailsKeyedCommandsOnly :
    Pends .hmac ∧ Keyed .hmac ∧ Pends .keyclr ∧ ¬ Keyed .keyclr ∧ State.reset.turn = .host ∧ State.reset.busy = false ∧
    128 < ({ State.reset with keylen := 129#8 } : State).keylen.toNat := by
  unfold Pends Keyed
  decide

theorem witness_NopChangesNothingWhileIdle :
    State.reset.turn = .host ∧ State.reset.busy = false ∧ (busy 0x5#4).turn = .host ∧ (busy 0x5#4).busy = true := by decide

theorem witness_SresetReachesTheResetState : (busy 0x5#4).turn = .host ∧ State.reset.turn = .host := by decide

theorem witness_ReservedOpcodesRaiseIllegalCmd :
    Instr.reserved9 ∈ [Instr.reserved9, .reservedA, .reservedB, .reservedC, .reservedD, .reservedE] ∧
    Instr.reservedE ∈ [Instr.reserved9, .reservedA, .reservedB, .reservedC, .reservedD, .reservedE] ∧
    State.reset.turn = .host ∧ (busy 0x5#4).turn = .host := by decide

/-- Not busy; and busy with another command. -/
theorem witness_OnlyThePendingCommandCompletes :
    ({ State.reset with turn := .core } : State).turn = .core ∧ ({ State.reset with turn := .core } : State).busy = false ∧
    (pending 0x4#4).turn = .core ∧ (pending 0x4#4).pendOp ≠ opcode .hmac := by decide

theorem witness_TstepDividesTheTimeByThirty : Pending .tstep (pending 0x1#4) := by unfold Pending; decide
theorem witness_EncodeWritesTheCounterBlock : Pending .encode (pending 0x2#4) := by unfold Pending; decide
theorem witness_HmacWritesTheTag : Pending .hmac (pending 0x3#4) := by unfold Pending; decide
theorem witness_TruncWritesOffsetValueCodeAndDigits : Pending .trunc (pending 0x4#4) := by unfold Pending; decide
theorem witness_HotpRunsEncodeHmacTrunc : Pending .hotp (pending 0x5#4) := by unfold Pending; decide
theorem witness_TotpRunsTstepEncodeHmacTrunc : Pending .totp (pending 0x6#4) := by unfold Pending; decide
theorem witness_KeyclrClearsKeyAndLength : Pending .keyclr (pending 0x7#4) := by unfold Pending; decide
theorem witness_ZeroizeClearsEveryDataRegister : Pending .zeroize (pending 0x8#4) := by unfold Pending; decide

/-- An offset beside those TOTP writes: KEYLEN, kept where PEND_ACL = 0. -/
theorem witness_CompletionKeepsEveryOtherOffset :
    Pends .totp ∧ Pending .totp { pending 0x6#4 with pendAcl := false } ∧ (0x010#12).toNat ∉ writtenOffsets false .totp := by
  unfold Pends Pending
  decide

/-- Two states that agree on the time and the key, and differ in the counter and in a key byte past KEYLEN. -/
theorem witness_ResultsDependOnTheOperandsAlone :
    let s := withKey krfc (pending 0x6#4)
    let u := { s with ctrLo := 7#32, key := s.key.set 20 0xFF#8 }
    Pends .totp ∧ Pending .totp s ∧ Pending .totp u ∧ ReadsAgree .totp s u ∧ s ≠ u := by
  unfold Pends Pending
  refine ⟨by decide, by decide, by decide, ⟨rfl, rfl, ?_, rfl⟩, ?_⟩
  · decide +kernel
  · decide +kernel

/-- Two times in one window, at its two ends. -/
theorem witness_TimeStepIsFloorDivision : (30#64).toNat ≤ (59#64).toNat ∧ 30 * 1 ≤ (30#64).toNat ∧ (59#64).toNat ≤ 30 * 1 + 29 := by
  decide

/-- The two messages of the examples. -/
theorem witness_Sha1CompressesThePaddedBlocks :
    ([] : List Byte) = [] ∧ [0x61#8, 0x62#8, 0x63#8] = [0x61#8, 0x62#8, 0x63#8] := by decide

/-- The shortest key that is hashed first. -/
theorem witness_HmacOfALongKeyIsHmacOfItsHash : 64 < (List.replicate 65 0#8).length := by simp

/-- "abc" filled to one whole block. -/
theorem witness_HmacIgnoresTrailingZeroKeyBytes : [0x61#8, 0x62#8, 0x63#8].length + 61 ≤ 64 := by decide

/-- KRFC with counter 0, and with counter 1. -/
theorem witness_HotpReproducesTheSourcesTwoCodes :
    let s := withKey krfc (pending 0x5#4)
    Pending .hotp s ∧ keyOf s = krfc ∧ ctrNat s = 0 ∧ ctrNat { s with ctrLo := 1#32 } = 1 := by
  unfold Pending
  decide +kernel

theorem witness_ResetIsHeldUntilReleased : (assertReset State.reset).isHeldReset := by
  unfold State.isHeldReset
  decide +kernel

/-- A step from a state with an error recorded, and from one without. -/
theorem witness_ErrcodeIsSetExactlyWithErr :
    ((0x1#4 : BitVec 4) ≠ 0#4 ↔ true = true) ∧ (State.reset.errcode ≠ 0#4 ↔ State.reset.err = true) ∧
    (after (step { State.reset with err := true, errcode := 1#4 })).isSome = true ∧ (after (step State.reset)).isSome = true := by
  decide

/-- A state with a code, and its step. -/
theorem witness_DigitsCodeAndValueStayInStep :
    let s : State := { State.reset with dbc := 1000007#31, code := 7#20, dig := decimal6 7#20 }
    (∀ i < 6, byteAt s.dig.toList i = 0x30 + s.code.toNat / 10 ^ (5 - i) % 10) ∧
    s.code.toNat = s.dbc.toNat % 10 ^ 6 ∧ (after (step s)).isSome = true := by decide

/-- The invariant of a state with a keyed command pending. -/
theorem busy_inv : (busy 0x5#4).Inv := by
  refine ⟨?_, ?_, ?_, ?_, ?_, ?_, ?_, fun h => nomatch h⟩
  all_goals decide

/-- A busy state with the invariant takes a step. -/
theorem witness_EveryStepKeepsTheInvariant : (busy 0x5#4).Inv ∧ (after (step (busy 0x5#4))).isSome = true :=
  ⟨busy_inv, by decide +kernel⟩

/-- Released; and held in reset with an access next. -/
theorem witness_NoReachableStepFaults :
    (busy 0x5#4).Inv ∧ ¬ ((busy 0x5#4).inReset = true ∧ (busy 0x5#4).accessNext) ∧
    (issue (rd 0x000#12) (assertReset State.reset)).Inv ∧ (issue (rd 0x000#12) (assertReset State.reset)).inReset = true ∧
    (issue (rd 0x000#12) (assertReset State.reset)).accessNext := by
  refine ⟨busy_inv, by simp [busy, pending, State.reset], ⟨?_, ?_, ?_, ?_, ?_, ?_, ?_, fun _ => ?_⟩, rfl, _, _, rfl⟩
  all_goals first | decide | exact .inl rfl | rfl

/-- A TOTP written while HOTP is pending. -/
theorem witness_PendingCommandFreezesTheData :
    (busy 0x5#4).inReset = false ∧ (busy 0x5#4).busy = true ∧
    ¬ ((0x00C#12 : Offset) = 0x00C#12 ∧ 4 = 4 ∧ Dir.write 0x6#32 = .write 0x0000000F#32) := by decide

/-- A completion of ENCODE that changes CBLK, and a key write that changes KEY. -/
theorem witness_OnlyNamedStepsWriteEachRegister :
    got (step { pending 0x2#4 with ctrLo := 1#32 }) (fun t => decide (t.cblk ≠ (pending 0x2#4).cblk)) = some true ∧
    got (step (writing State.reset 0x17C#12 1#32)) (fun t => decide (t.key ≠ State.reset.key)) = some true ∧
    ¬ ResetsNext (pending 0x2#4) ∧ ¬ ResetsNext (writing State.reset 0x17C#12 1#32) := by
  refine ⟨by decide, by decide +kernel, ?_, ?_⟩
  · rintro (⟨rest, h⟩ | ⟨rest, h⟩) <;> cases h
  · rintro (⟨rest, h⟩ | ⟨rest, h⟩)
    · cases h
    · simp [writing, issue, wrCmd, wr] at h

theorem witness_HostAccessesNeverRevealTheKey :
    (after (step (issue (.access ⟨0x100#12, 4, .write 1#32⟩) State.reset))).isSome = true := by decide

theorem witness_IrqFollowsStatusAndEnables : ({ State.reset with done := true, doneIe := true } : State).inReset = false := by
  decide

/-- A pending command with two accesses still to come before its completion. -/
theorem witness_PendingCommandEnds :
    (issue (rd 0x008#12) (issue (rd 0x008#12) (busy 0x5#4))).Inv ∧
    (issue (rd 0x008#12) (issue (rd 0x008#12) (busy 0x5#4))).busy = true := by
  refine ⟨⟨?_, ?_, ?_, ?_, ?_, ?_, ?_, fun h => nomatch h⟩, rfl⟩
  all_goals decide

theorem witness_CompositeCommandsEqualTheirChains :
    let s := withKey krfc State.reset
    s.inReset = false ∧ s.busy = false ∧ s.keylen.toNat ≤ 128 ∧ s.events = [] := by decide

theorem witness_LdctrAndLdtimeLoadThePair :
    State.reset.inReset = false ∧ State.reset.busy = false ∧ (HostCtx.mk 0 0#32 false).pos = 0 := by decide

/-- The longest key `ldkey` takes. -/
theorem witness_LdkeyLoadsTheKey :
    State.reset.inReset = false ∧ State.reset.busy = false ∧ (HostCtx.mk 0 0#32 false).pos = 0 ∧
    ldkeyOk (List.replicate 128 0x5A#8) = true := by decide +kernel

theorem witness_WaitEndsAfterTheCompletion :
    (busy 0x5#4).Inv ∧ (busy 0x5#4).busy = true ∧ (HostCtx.mk 0 0#32 false).pos = 0 := ⟨busy_inv, rfl, rfl⟩

end Sys2Proof.Tests
end

section
/-! PROOFS. The address decoder of the platform (spec/20_memory.md R75, R102): the window is the only range of bus addresses
that reaches the core. -/

namespace Sys2Proof.Machine

theorem coreBase_mod_windowLen : Config.coreBase % Config.windowLen = 0 := Nat.mul_mod_right _ _

/-- Inside the window the 12-bit offset is the whole distance from CORE_BASE, so it is the only offset at that address. -/
theorem ofNat_window_eq_iff {base addr : Nat} (hlo : base ≤ addr) (hhi : addr < base + Config.windowLen) (off : Offset) :
    BitVec.ofNat 12 (addr - base) = off ↔ addr = base + off.toNat := by
  have hmod : (addr - base) % 2 ^ 12 = addr - base := Nat.mod_eq_of_lt (Nat.sub_lt_left_of_lt_add hlo hhi)
  rw [← BitVec.toNat_inj, BitVec.toNat_ofNat, hmod]
  omega

theorem platformRoute_eq_some_iff (addr size : Nat) (dir : Dir) (a : Access) :
    platformRoute addr size dir = some a ↔ addr = Config.coreBase + a.off.toNat ∧ a.size = size ∧ a.dir = dir := by
  obtain ⟨off, asize, adir⟩ := a
  unfold platformRoute
  split
  case isTrue hin =>
    rw [Option.some_inj, Access.mk.injEq, ofNat_window_eq_iff hin.1 hin.2, eq_comm (a := size), eq_comm (a := dir)]
  case isFalse hout =>
    have hoff : off.toNat < Config.windowLen := off.isLt
    simp only [reduceCtorEq, false_iff]
    rintro ⟨haddr, -, -⟩
    exact hout ⟨by omega, by omega⟩

/-- Settles O57: an access is routed exactly when its address is CORE_BASE plus its offset (`platformRoute_eq_some_iff`). -/
theorem platformRoutesTheWindowOnly : Obligations.PlatformRoutesTheWindowOnly :=
  ⟨coreBase_mod_windowLen, platformRoute_eq_some_iff⟩

end Sys2Proof.Machine
end

section
/-! PROOFS. A pending command ends (spec/40_execution.md R135, R138): each step ends it, or leaves it pending with one event
fewer to come. -/

namespace Sys2Proof.Machine

/-- A command is pending and its completion step is enabled (R135). -/
structure State.InFlight (s : State) : Prop where
  busy : s.busy = true
  released : s.inReset = false
  pends : becomesPending (instrOfOp s.pendOp) = true

/-- The command has ended: it completed (R135), or a reset put the core in the reset state (R138). -/
def State.CommandEnded (s : State) : Prop := s.busy = false ∧ (s.done = true ∨ s = softReset s)

/-- `t` still has the pending command of `s`, or is a reset state. -/
def KeepsPendingOrReset (s t : State) : Prop := (t.busy = true ∧ t.pendOp = s.pendOp) ∨ t = softReset t

/-- R135, R271: the invariant leaves a busy state its opcode, and no busy state is held in reset. -/
theorem State.Inv.inFlight {s : State} (hinv : s.Inv) (hb : s.busy = true) : s.InFlight where
  busy := hb
  released := by
    refine Bool.eq_false_iff.2 fun hr => ?_
    have hidle : s.busy = false := congrArg State.busy (hinv.held hr)
    simp [hb] at hidle
  pends := by simpa [becomesPending, opcode_instrOfOp] using hinv.pend_op hb

theorem commandEnded_of_reset {s : State} (h : s = softReset s) : s.CommandEnded :=
  ⟨congrArg State.busy h, .inr h⟩

theorem completed_commandEnded (i : Instr) (s : State) : (completed i s).CommandEnded :=
  ⟨finishCommand_busy _, .inl (finishCommand_done _)⟩

theorem State.InFlight.coreStep {s : State} (h : s.InFlight) : ∃ t, coreStep s = .next t ∧ t.CommandEnded := by
  have henabled : coreEnabled s = true := by simp [coreEnabled, h.busy, h.released]
  exact ⟨_, coreStep_enabled s henabled h.pends, completed_commandEnded _ _⟩

theorem errorEvent_keepsPending {s : State} (hb : s.busy = true) (c : ErrorCode) :
    KeepsPendingOrReset s (errorEvent c s) :=
  .inl ⟨by simpa using hb, by simp⟩

/-- R131, R138: while busy a CMD write is an error event, or an SRESET. -/
theorem presented_keepsPendingOrReset (i : Instr) {s : State} (hb : s.busy = true) :
    KeepsPendingOrReset s (presented i s) := by
  have hbusy := errorEvent_keepsPending hb .busyWrite
  cases i
  case sreset => exact .inr rfl
  all_goals simpa [presented, nopEffect, rejectIllegal, acceptCommand, hb] using hbusy

theorem cmdWritten_keepsPendingOrReset (v : Word) {s : State} (hb : s.busy = true) :
    KeepsPendingOrReset s (cmdWritten v s) := by
  unfold cmdWritten
  split
  · exact presented_keepsPendingOrReset _ hb
  · exact errorEvent_keepsPending hb _

/-- R132: a frozen operand write is an error event. -/
theorem frozenWrite_keepsPending (store : State → State) {s : State} (hb : s.busy = true) :
    KeepsPendingOrReset s (frozenWrite store s) := by
  rw [frozenWrite, if_pos hb]
  exact errorEvent_keepsPending hb _

theorem writeStatus_keepsPending (v : Word) {s : State} (hb : s.busy = true) :
    KeepsPendingOrReset s (writeStatus v s) := by
  refine .inl ?_
  unfold writeStatus
  dsimp only
  split <;> split <;> exact ⟨hb, rfl⟩

theorem written_keepsPendingOrReset (r : Reg) (v : Word) {s : State} (hb : s.busy = true) :
    KeepsPendingOrReset s (written r v s) := by
  cases r
  case cmd => exact cmdWritten_keepsPendingOrReset v hb
  case status => exact writeStatus_keepsPending v hb
  case keylen | timeHi | timeLo | ctrHi | ctrLo | keyW => exact frozenWrite_keepsPending _ hb
  all_goals exact .inl ⟨hb, rfl⟩

/-- R133, R138: no host access but an SRESET takes the pending command away. -/
theorem accessed_keepsPendingOrReset (a : Access) {s : State} (hb : s.busy = true) :
    KeepsPendingOrReset s (accessed a s) := by
  unfold accessed
  split
  · exact .inl ⟨hb, rfl⟩
  · exact written_keepsPendingOrReset _ _ (s := { s with resp := .okay, turn := .host }) hb
  · exact .inl ⟨hb, rfl⟩

@[simp] theorem accessed_events (a : Access) (s : State) : (accessed a s).events = s.events := by
  unfold accessed; split <;> simp

@[simp] theorem accessed_inReset (a : Access) (s : State) : (accessed a s).inReset = s.inReset := by
  unfold accessed; split <;> simp

/-- A host access ends the pending command or leaves it pending. -/
theorem State.InFlight.accessed {s : State} (h : s.InFlight) (a : Access) :
    (accessed a s).CommandEnded ∨ (Machine.accessed a s).InFlight := by
  obtain ⟨hb, hp⟩ | hreset := accessed_keepsPendingOrReset a h.busy
  · exact .inr ⟨hb, by simpa using h.released, by rw [hp]; exact h.pends⟩
  · exact .inl (commandEnded_of_reset hreset)

theorem State.InFlight.setEvents {s : State} (h : s.InFlight) (es : List Event) : InFlight { s with events := es } :=
  ⟨h.busy, h.released, h.pends⟩

/-- Each event ends the pending command, or leaves it pending with the later events still to come. -/
theorem State.InFlight.takeEvent {s : State} (h : s.InFlight) (e : Event) :
    ∃ t, takeEvent e s = .next t ∧ (t.CommandEnded ∨ (t.InFlight ∧ t.events = s.events)) := by
  cases e with
  | access a =>
    refine ⟨_, takeEvent_access a s h.released, (h.accessed a).imp_right fun hf => ⟨hf, by simp⟩⟩
  | complete => exact h.coreStep.imp fun _ ⟨hcore, hended⟩ => ⟨hcore, .inl hended⟩
  | assertReset => exact ⟨_, rfl, .inl (commandEnded_of_reset rfl)⟩
  | releaseReset => exact ⟨_, rfl, .inr ⟨⟨h.busy, rfl, h.pends⟩, rfl⟩⟩

theorem core_run_succ {s t : State} (h : step s = .next t) (k : Nat) : core.run (k + 1) s = core.run k t := by
  have hstep : core.step s = .next t := h
  simp only [Host.Core.run, hstep]

/-- Bounded liveness, by induction on the events still to come: each of them ends the command or is used up. -/
theorem State.InFlight.ends (es : List Event) : ∀ {s : State}, s.events = es → s.InFlight →
    ∃ k t, k ≤ es.length + 1 ∧ core.run k s = .next t ∧ t.CommandEnded := by
  induction es with
  | nil =>
    intro s hs h
    obtain ⟨t, hcore, hended⟩ := h.coreStep
    exact ⟨1, t, le_rfl, core_run_succ ((step_nil s hs).trans hcore) 0, hended⟩
  | cons e es ih =>
    intro s hs h
    obtain ⟨t, htake, hended | ⟨hflight, hevents⟩⟩ := (h.setEvents es).takeEvent e
    all_goals have hrun := core_run_succ ((step_cons s e es hs).trans htake)
    · exact ⟨1, t, by simp, hrun 0, hended⟩
    · obtain ⟨k, u, hk, hku, hended⟩ := ih hevents hflight
      exact ⟨k + 1, u, by simpa using hk, (hrun k).trans hku, hended⟩

/-- Settles O55: a busy state of the invariant has its command in flight (`State.Inv.inFlight`), and such a command ends
(`State.InFlight.ends`). -/
theorem pendingCommandEnds : Obligations.PendingCommandEnds :=
  fun s hinv hb => State.InFlight.ends s.events rfl (hinv.inFlight hb)

end Sys2Proof.Machine
end

section
/-! PROOFS. Byte arrays as numbers (spec/00_scope.md R7; spec/10_state.md R41): the statements read a byte with `byteAt` and
a window word with `beNat`. -/

namespace Sys2Proof.Machine
open Sys2Proof.Claims

theorem byteAt_vector {n : Nat} (a : Vector Byte n) (i : Nat) (hi : i < n) : byteAt a.toList i = a[i].toNat := by
  simp [byteAt, hi]

/-- Two byte arrays are equal when their bytes are equal as numbers. -/
theorem vector_eq_iff_byteAt {n : Nat} (a b : Vector Byte n) :
    a = b ↔ ∀ i < n, byteAt a.toList i = byteAt b.toList i := by
  refine ⟨fun h _ _ => by rw [h], fun h => Vector.ext fun i hi => BitVec.eq_of_toNat_eq ?_⟩
  rw [← byteAt_vector a i hi, ← byteAt_vector b i hi, h i hi]

/-- A window word is the big-endian value of its four bytes (R41). -/
theorem windowWord_eq_beNat {n : Nat} (a : Vector Byte n) (i : Nat) (h : 4 * i + 3 < n) :
    windowWord a i h = BitVec.ofNat 32 (beNat a.toList (4 * i)) := by
  apply BitVec.eq_of_toNat_eq
  have hval : (windowWord a i h).toNat = beNat a.toList (4 * i) := by
    rw [windowWord, be32_toNat, beNat, byteAt_vector a, byteAt_vector a, byteAt_vector a, byteAt_vector a]
  rw [BitVec.toNat_ofNat, ← hval, Nat.mod_eq_of_lt (windowWord a i h).isLt]

/-- The bytes of a word joined from a byte sequence (R7, R172). -/
theorem wordByte_be32At (b : List Byte) (t i : Nat) (hi : i < 4) :
    wordByte (be32At b t) i = b.getD (4 * t + i) 0#8 := by
  apply BitVec.eq_of_toNat_eq
  have := (b.getD (4 * t) 0#8).isLt
  have := (b.getD (4 * t + 1) 0#8).isLt
  have := (b.getD (4 * t + 2) 0#8).isLt
  have := (b.getD (4 * t + 3) 0#8).isLt
  rw [wordByte_toNat, be32At, be32_toNat]
  interval_cases i
  · simp only [Nat.add_zero]; omega
  all_goals omega

end Sys2Proof.Machine
end

section
/-! PROOFS. What the completion of a command leaves in each register (spec/40_execution.md R135, R136). -/

namespace Sys2Proof.Machine

variable (i : Instr) (s : State)

/-! ### AutoClear touches KEY and KEYLEN alone (R136) -/

theorem autoClear_key (op : Op) :
    (autoClear op s).key = if s.pendAcl && isKeyed op then Vector.replicate 128 0#8 else s.key := by
  unfold autoClear; split <;> rfl
theorem autoClear_keylen (op : Op) :
    (autoClear op s).keylen = if s.pendAcl && isKeyed op then 0#8 else s.keylen := by
  unfold autoClear; split <;> rfl
@[simp] theorem autoClear_err (op : Op) : (autoClear op s).err = s.err := by unfold autoClear; split <;> rfl
@[simp] theorem autoClear_errcode (op : Op) : (autoClear op s).errcode = s.errcode := by unfold autoClear; split <;> rfl
@[simp] theorem autoClear_timeHi (op : Op) : (autoClear op s).timeHi = s.timeHi := by unfold autoClear; split <;> rfl
@[simp] theorem autoClear_timeLo (op : Op) : (autoClear op s).timeLo = s.timeLo := by unfold autoClear; split <;> rfl
@[simp] theorem autoClear_ctrHi (op : Op) : (autoClear op s).ctrHi = s.ctrHi := by unfold autoClear; split <;> rfl
@[simp] theorem autoClear_ctrLo (op : Op) : (autoClear op s).ctrLo = s.ctrLo := by unfold autoClear; split <;> rfl
@[simp] theorem autoClear_cblk (op : Op) : (autoClear op s).cblk = s.cblk := by unfold autoClear; split <;> rfl
@[simp] theorem autoClear_mac (op : Op) : (autoClear op s).mac = s.mac := by unfold autoClear; split <;> rfl
@[simp] theorem autoClear_truncOff (op : Op) : (autoClear op s).truncOff = s.truncOff := by unfold autoClear; split <;> rfl
@[simp] theorem autoClear_dbc (op : Op) : (autoClear op s).dbc = s.dbc := by unfold autoClear; split <;> rfl
@[simp] theorem autoClear_code (op : Op) : (autoClear op s).code = s.code := by unfold autoClear; split <;> rfl
@[simp] theorem autoClear_dig (op : Op) : (autoClear op s).dig = s.dig := by unfold autoClear; split <;> rfl

/-! ### No effect touches the error fields or PEND_ACL -/

@[simp] theorem commandEffect_err : (commandEffect i s).err = s.err := by cases i <;> rfl
@[simp] theorem commandEffect_errcode : (commandEffect i s).errcode = s.errcode := by cases i <;> rfl
@[simp] theorem commandEffect_pendAcl : (commandEffect i s).pendAcl = s.pendAcl := by cases i <;> rfl

/-! ### A completion is the effect, then AutoClear, then the two status bits (R135) -/

@[simp] theorem completed_err : (completed i s).err = s.err := by simp [completed]
@[simp] theorem completed_errcode : (completed i s).errcode = s.errcode := by simp [completed]
@[simp] theorem completed_timeHi : (completed i s).timeHi = (commandEffect i s).timeHi := by simp [completed]
@[simp] theorem completed_timeLo : (completed i s).timeLo = (commandEffect i s).timeLo := by simp [completed]
@[simp] theorem completed_ctrHi : (completed i s).ctrHi = (commandEffect i s).ctrHi := by simp [completed]
@[simp] theorem completed_ctrLo : (completed i s).ctrLo = (commandEffect i s).ctrLo := by simp [completed]
@[simp] theorem completed_cblk : (completed i s).cblk = (commandEffect i s).cblk := by simp [completed]
@[simp] theorem completed_mac : (completed i s).mac = (commandEffect i s).mac := by simp [completed]
@[simp] theorem completed_truncOff : (completed i s).truncOff = (commandEffect i s).truncOff := by simp [completed]
@[simp] theorem completed_dbc : (completed i s).dbc = (commandEffect i s).dbc := by simp [completed]
@[simp] theorem completed_code : (completed i s).code = (commandEffect i s).code := by simp [completed]
@[simp] theorem completed_dig : (completed i s).dig = (commandEffect i s).dig := by simp [completed]
theorem completed_key : (completed i s).key =
    if s.pendAcl && isKeyed (opcode i) then Vector.replicate 128 0#8 else (commandEffect i s).key := by
  simp [completed, autoClear_key]
theorem completed_keylen : (completed i s).keylen =
    if s.pendAcl && isKeyed (opcode i) then 0#8 else (commandEffect i s).keylen := by
  simp [completed, autoClear_keylen]

end Sys2Proof.Machine
end

section
/-! PROOFS. What a host access can do, said once (spec/20_memory.md R70, R71; spec/40_execution.md R131, R132): one
constructor of `AccessMove` for each operation of the slave port. -/

namespace Sys2Proof.Machine

/-- The store of an operand register while idle (R31 to R34); a register the host cannot store into is left alone. -/
def operandStore (r : Reg) (v : Word) (s : State) : State :=
  match r with
  | .keylen => storeKeylen v s
  | .timeHi => storeTimeHi v s
  | .timeLo => storeTimeLo v s
  | .ctrHi => storeCtrHi v s
  | .ctrLo => storeCtrLo v s
  | .keyW i => storeKey i v s
  | .id | .ctrl | .status | .cmd | .cblk _ | .mac _ | .truncOff | .dbc | .code | .digits _ => s

/-- The state the access `a` leaves from `u`, which holds its response already. -/
inductive AccessMove (a : Access) (u : State) : State → Prop where
  /-- A read, a bus error, a write to a read-only register, or an idle NOP (R70 to R72, R222). -/
  | nothing : AccessMove a u u
  /-- A rejected command or a frozen operand write (R131, R132, R241). -/
  | error (c : ErrorCode) : AccessMove a u (errorEvent c u)
  /-- A write to CTRL (R26). -/
  | ctrl (v : Word) : AccessMove a u (writeCtrl v u)
  /-- A write to STATUS (R28). -/
  | status (v : Word) : AccessMove a u (writeStatus v u)
  /-- The SRESET word written to CMD (R226). -/
  | sreset (ha : a = ⟨Reg.offset .cmd, 4, .write (encode .sreset)⟩) : AccessMove a u (softReset u)
  /-- A command accepted while idle (R131, R134). -/
  | start (i : Instr) (hpends : becomesPending i = true) (hidle : u.busy = false)
      (hlen : isKeyed (opcode i) = true → u.keylen.toNat ≤ 128) : AccessMove a u (startCommand (opcode i) u)
  /-- An operand write while idle (R31 to R34). -/
  | store (r : Reg) (v : Word) (ha : a = ⟨Reg.offset r, 4, .write v⟩) (hidle : u.busy = false) :
      AccessMove a u (operandStore r v u)

theorem decode_eq_sreset {v : Word} (h : decode v = .ok .sreset) : v = encode .sreset := by
  unfold decode at h
  split at h
  case isTrue hrsv =>
    have hop : opField v = 0xF#4 := by
      have := congrArg opcode (Except.ok.inj h)
      rwa [opcode_instrOfOp] at this
    have hlow : v.toNat % 2 ^ 4 = 15 := by simpa [opField] using congrArg BitVec.toNat hop
    have hhigh : v.toNat / 2 ^ 4 % 2 ^ 28 = 0 := by
      simpa [rsvField, Nat.shiftRight_eq_div_pow] using congrArg BitVec.toNat hrsv
    apply BitVec.eq_of_toNat_eq
    have := v.isLt
    simp only [encode, opcode, BitVec.toNat_setWidth, BitVec.toNat_ofNat]
    omega
  case isFalse => cases h

variable {a : Access} {u : State}

/-- A command is rejected while busy or with an illegal key length, and accepted otherwise (R131). -/
theorem acceptCommand_move (i : Instr) (hpends : becomesPending i = true) :
    AccessMove a u (acceptCommand (opcode i) u) := by
  unfold acceptCommand
  split
  case isTrue => exact .error _
  case isFalse hidle =>
    split
    case isTrue => exact .error _
    case isFalse hlen =>
      refine .start i hpends (by simpa using hidle) fun hkeyed => ?_
      simpa [hkeyed, keylenTooLong] using hlen

theorem presented_move (i : Instr) (ha : i = .sreset → a = ⟨Reg.offset .cmd, 4, .write (encode .sreset)⟩) :
    AccessMove a u (presented i u) := by
  cases i
  case nop =>
    simp only [presented, nopEffect]
    split
    · exact .error _
    · exact .nothing
  case sreset => exact .sreset (ha rfl)
  case tstep | encode | hmac | trunc | hotp | totp | keyclr | zeroize => exact acceptCommand_move _ rfl
  all_goals exact .error _

theorem cmdWritten_move (v : Word) (ha : a = ⟨Reg.offset .cmd, 4, .write v⟩) : AccessMove a u (cmdWritten v u) := by
  unfold cmdWritten
  split
  case h_1 i hdec =>
    refine presented_move i ?_
    rintro rfl
    rw [ha, decode_eq_sreset hdec]
  case h_2 => exact .error _

/-- An operand write is an error event while busy and a store while idle (R132). -/
theorem frozenWrite_move (r : Reg) (v : Word) (ha : a = ⟨Reg.offset r, 4, .write v⟩) :
    AccessMove a u (frozenWrite (operandStore r v) u) := by
  unfold frozenWrite
  split
  case isTrue => exact .error _
  case isFalse hidle => exact .store r v ha (by simpa using hidle)

theorem written_move (r : Reg) (v : Word) (ha : a = ⟨Reg.offset r, 4, .write v⟩) : AccessMove a u (written r v u) := by
  cases r
  case ctrl => exact .ctrl v
  case status => exact .status v
  case cmd => exact cmdWritten_move v ha
  case keylen | timeHi | timeLo | ctrHi | ctrLo | keyW => exact frozenWrite_move _ v ha
  all_goals exact .nothing

/-- An access that reaches a register is a 32-bit access at the register's offset (R70, R71). -/
theorem accessReg_sound {off : Offset} {size : Nat} {r : Reg} (h : accessReg off size = some r) :
    off = Reg.offset r ∧ size = 4 := by
  unfold accessReg at h
  split at h
  · exact ⟨regAt_sound h, ‹_›⟩
  · cases h

theorem accessed_move (a : Access) (s : State) :
    AccessMove a { s with resp := (accessed a s).resp, turn := .host } (accessed a s) := by
  obtain ⟨off, size, dir⟩ := a
  cases dir with
  | read => exact .nothing
  | write v =>
    cases hreg : accessReg off size with
    | none =>
      simp only [accessed, hreg]
      exact .nothing
    | some r =>
      obtain ⟨rfl, rfl⟩ := accessReg_sound hreg
      simp only [accessed_offset, written_resp]
      exact written_move r v rfl

end Sys2Proof.Machine
end

section
/-! PROOFS. The error fields over a step (spec/10_state.md R29; spec/60_exceptions.md R240, R241): a step leaves ERR and
ERRCODE alone, records a first error, or clears both. -/

namespace Sys2Proof.Machine

/-- What a step can make of ERR and ERRCODE. -/
def ErrorMove (s t : State) : Prop :=
  (t.err = s.err ∧ t.errcode = s.errcode) ∨ (t.err = true ∧ ∃ c, t.errcode = errorCode c) ∨
    (t.err = false ∧ t.errcode = 0#4)

theorem errorEvent_errorMove (c : ErrorCode) (s : State) : ErrorMove s (errorEvent c s) := by
  cases herr : s.err
  case false => exact .inr (.inl ⟨by simp, c, by simp [errorEvent_errcode, herr]⟩)
  case true => exact .inl ⟨by simp [herr], by simp [errorEvent_errcode, herr]⟩

theorem writeStatus_errorMove (v : Word) (s : State) : ErrorMove s (writeStatus v s) := by
  unfold writeStatus
  dsimp only
  split <;> split
  case isTrue.isTrue | isTrue.isFalse => exact .inr (.inr ⟨rfl, rfl⟩)
  all_goals exact .inl ⟨rfl, rfl⟩

theorem AccessMove.errorMove {a : Access} {u t : State} (h : AccessMove a u t) : ErrorMove u t := by
  cases h with
  | nothing | ctrl | start => exact .inl ⟨rfl, rfl⟩
  | error c => exact errorEvent_errorMove c u
  | status v => exact writeStatus_errorMove v u
  | sreset => exact .inr (.inr ⟨rfl, rfl⟩)
  | store r v => exact .inl (by cases r <;> exact ⟨rfl, rfl⟩)

theorem step_errorMove {s t : State} (h : step s = .next t) : ErrorMove s t := by
  obtain ⟨-, -, rfl⟩ | ⟨-, -, -, rfl⟩ | ⟨a, -, -, rfl⟩ | ⟨-, rfl⟩ | ⟨-, rfl⟩ := step_cases h
  · exact .inl ⟨rfl, rfl⟩
  · exact .inl ⟨completed_err _ _, completed_errcode _ _⟩
  · exact (accessed_move a (popped s)).errorMove
  · exact .inr (.inr ⟨rfl, rfl⟩)
  · exact .inl ⟨rfl, rfl⟩

theorem errorCode_ne_zero (c : ErrorCode) : errorCode c ≠ 0#4 := by cases c <;> decide

theorem errorCode_le_three (c : ErrorCode) : (errorCode c).toNat ≤ 3 := by cases c <;> decide

/-- R29: a step keeps ERRCODE in agreement with ERR. -/
theorem ErrorMove.errcode_iff {s t : State} (h : ErrorMove s t) (hs : s.errcode ≠ 0#4 ↔ s.err = true) :
    t.errcode ≠ 0#4 ↔ t.err = true := by
  obtain ⟨herr, hcode⟩ | ⟨herr, c, hcode⟩ | ⟨herr, hcode⟩ := h
  · rwa [herr, hcode]
  · simp [herr, hcode, errorCode_ne_zero]
  · simp [herr, hcode]

/-- R240: a step records named codes only. -/
theorem ErrorMove.errcode_named {s t : State} (h : ErrorMove s t) (hs : s.errcode.toNat ≤ 3) : t.errcode.toNat ≤ 3 := by
  obtain ⟨-, hcode⟩ | ⟨-, c, hcode⟩ | ⟨-, hcode⟩ := h
  · rwa [hcode]
  · rw [hcode]; exact errorCode_le_three c
  · simp [hcode]

/-- Settles O47: every step is an `ErrorMove`, and each of the three moves keeps the agreement. -/
theorem errcodeIsSetExactlyWithErr : Obligations.ErrcodeIsSetExactlyWithErr :=
  ⟨by decide, fun _ _ hs hstep => (step_errorMove hstep).errcode_iff hs⟩

end Sys2Proof.Machine
end

section
/-! PROOFS. DIG, CODE and DBC over a step (spec/10_state.md R47): only TRUNC, its composites, ZEROIZE and the resets write
them, and all of them write the three together. -/

namespace Sys2Proof.Machine
open Sys2Proof.Claims

/-- R47: DIG is all 0x00 or the decimal string of CODE, and CODE is DBC mod 10^6. -/
def State.CodesInStep (s : State) : Prop :=
  (s.dig = Vector.replicate 6 0#8 ∨ s.dig = decimal6 s.code) ∧ s.code.toNat = s.dbc.toNat % 10 ^ 6

/-- R47 speaks of the code registers alone. -/
theorem State.CodesInStep.congr {s t : State} (hs : s.CodesInStep) (h : CodesAgree t s) : t.CodesInStep := by
  obtain ⟨-, hdbc, hcode, hdig⟩ := h
  rwa [State.CodesInStep, hdbc, hcode, hdig]

theorem codesInStep_of_zero {s : State} (hdig : s.dig = Vector.replicate 6 0#8) (hcode : s.code = 0#20)
    (hdbc : s.dbc = 0#31) : s.CodesInStep :=
  ⟨.inl hdig, by simp [hcode, hdbc]⟩

theorem truncEffect_codesInStep (s : State) : (truncEffect s).CodesInStep :=
  ⟨.inr rfl, reduceCode_toNat _⟩

theorem commandEffect_codesInStep (i : Instr) {s : State} (hs : s.CodesInStep) : (commandEffect i s).CodesInStep := by
  cases i
  case trunc | hotp | totp => exact truncEffect_codesInStep _
  case zeroize => exact codesInStep_of_zero rfl rfl rfl
  all_goals exact hs

theorem completed_codesAgree (i : Instr) (s : State) : CodesAgree (completed i s) (commandEffect i s) := by
  simp [CodesAgree]

/-- No host access but an SRESET writes the code registers (R37 to R40). -/
theorem AccessMove.codesAgree {a : Access} {u t : State} (h : AccessMove a u t) : CodesAgree t u ∨ t = softReset u := by
  cases h with
  | nothing | ctrl | start => exact .inl ⟨rfl, rfl, rfl, rfl⟩
  | error c => exact .inl (by simp [CodesAgree])
  | status v =>
    refine .inl ?_
    unfold writeStatus
    dsimp only
    split <;> split <;> exact ⟨rfl, rfl, rfl, rfl⟩
  | sreset => exact .inr rfl
  | store r v => exact .inl (by cases r <;> exact ⟨rfl, rfl, rfl, rfl⟩)

theorem step_codesInStep {s t : State} (hs : s.CodesInStep) (h : step s = .next t) : t.CodesInStep := by
  obtain ⟨-, -, rfl⟩ | ⟨-, -, -, rfl⟩ | ⟨a, -, -, rfl⟩ | ⟨-, rfl⟩ | ⟨-, rfl⟩ := step_cases h
  · exact hs
  · exact (commandEffect_codesInStep _ (s := { popped s with turn := .core }) hs).congr (completed_codesAgree _ _)
  · obtain hagree | hreset := (accessed_move a (popped s)).codesAgree
    · exact hs.congr hagree
    · rw [hreset]; exact codesInStep_of_zero rfl rfl rfl
  · exact codesInStep_of_zero rfl rfl rfl
  · exact hs

theorem dig_zero_iff (d : Vector Byte 6) : d = Vector.replicate 6 0#8 ↔ ∀ i < 6, byteAt d.toList i = 0 := by
  rw [vector_eq_iff_byteAt]
  refine forall₂_congr fun i hi => ?_
  rw [byteAt_vector (Vector.replicate 6 0#8) i hi]
  simp

theorem dig_decimal6_iff (d : Vector Byte 6) (c : BitVec 20) :
    d = decimal6 c ↔ ∀ i < 6, byteAt d.toList i = 0x30 + c.toNat / 10 ^ (5 - i) % 10 := by
  rw [vector_eq_iff_byteAt]
  refine forall₂_congr fun i hi => ?_
  rw [byteAt_vector (decimal6 c) i hi, decimal6_getElem, decimalDigit_toNat]

/-- Settles O48: `State.CodesInStep` is its predicate, and every step keeps it (`step_codesInStep`). -/
theorem digitsCodeAndValueStayInStep : Obligations.DigitsCodeAndValueStayInStep := by
  simp only [Obligations.DigitsCodeAndValueStayInStep, ← dig_zero_iff, ← dig_decimal6_iff]
  exact ⟨codesInStep_of_zero rfl rfl rfl, fun s t hs hstep => step_codesInStep hs hstep⟩

end Sys2Proof.Machine
end

section
/-! PROOFS. The invariant of the machine (spec/40_execution.md R131, R134, R135; spec/70_reset_and_hazards.md R271): the
pending command and the reset clause over a step, then all eight clauses together. -/

namespace Sys2Proof.Machine

/-- R131, R134, R135: a pending command is one of 0x1 to 0x8, has a legal key length where keyed, and DONE is 0. -/
def State.PendingLegal (s : State) : Prop :=
  s.busy = true → (1 ≤ s.pendOp.toNat ∧ s.pendOp.toNat ≤ 8) ∧
    (isKeyed s.pendOp = true → s.keylen.toNat ≤ 128) ∧ s.done = false

theorem State.Inv.pendingLegal {s : State} (hinv : s.Inv) : s.PendingLegal :=
  fun hb => ⟨hinv.pend_op hb, hinv.pend_keylen hb, hinv.not_done hb⟩

theorem pendingLegal_of_idle {s : State} (h : s.busy = false) : s.PendingLegal := by
  simp [State.PendingLegal, h]

theorem startCommand_pendingLegal {i : Instr} {s : State} (hpends : becomesPending i = true)
    (hlen : isKeyed (opcode i) = true → s.keylen.toNat ≤ 128) : (startCommand (opcode i) s).PendingLegal :=
  fun _ => ⟨by simpa [becomesPending] using hpends, hlen, rfl⟩

theorem writeStatus_pendingLegal (v : Word) {s : State} (hs : s.PendingLegal) : (writeStatus v s).PendingLegal := by
  unfold writeStatus
  dsimp only
  split <;> split
  case isTrue.isTrue | isFalse.isTrue => exact fun hb => ⟨(hs hb).1, (hs hb).2.1, rfl⟩
  all_goals exact hs

/-- A host access starts a legal command, or leaves a pending one as it is (R131, R133). -/
theorem AccessMove.pendingLegal {a : Access} {u t : State} (h : AccessMove a u t) (hu : u.PendingLegal) :
    t.PendingLegal := by
  cases h with
  | nothing | ctrl => exact hu
  | error c => simpa [State.PendingLegal] using hu
  | status v => exact writeStatus_pendingLegal v hu
  | sreset => exact pendingLegal_of_idle rfl
  | start i hpends _ hlen => exact startCommand_pendingLegal hpends hlen
  | store r v _ hidle => exact pendingLegal_of_idle (by cases r <;> exact hidle)

theorem step_pendingLegal {s t : State} (hs : s.PendingLegal) (h : step s = .next t) : t.PendingLegal := by
  obtain ⟨-, -, rfl⟩ | ⟨-, -, -, rfl⟩ | ⟨a, -, -, rfl⟩ | ⟨-, rfl⟩ | ⟨-, rfl⟩ := step_cases h
  · exact hs
  · exact pendingLegal_of_idle rfl
  · exact (accessed_move a (popped s)).pendingLegal hs
  · exact pendingLegal_of_idle rfl
  · exact hs

/-- R271: while `rst_n` is asserted no access is issued and no completion taken, so the reset state stays. -/
theorem step_held {s t : State} (hs : s.inReset = true → s.isHeldReset) (h : step s = .next t) :
    t.inReset = true → t.isHeldReset := by
  obtain ⟨-, -, rfl⟩ | ⟨henabled, -, -, rfl⟩ | ⟨a, -, hreleased, rfl⟩ | ⟨-, rfl⟩ | ⟨-, rfl⟩ := step_cases h
  · exact fun hreset => congrArg popped (hs hreset)
  · have hreleased : s.inReset = false := by simp_all [coreEnabled]
    simp [popped, hreleased]
  · simp [popped, hreleased]
  · exact fun _ => rfl
  · exact fun hreset => nomatch hreset

/-- Settles O49: the four clause groups are each kept by every step (`step_errorMove`, `step_pendingLegal`,
`step_codesInStep`, `step_held`). -/
theorem everyStepKeepsTheInvariant : Obligations.EveryStepKeepsTheInvariant := by
  intro s t hinv hstep
  have herror := step_errorMove hstep
  have hpending := step_pendingLegal hinv.pendingLegal hstep
  obtain ⟨hdig, hcode⟩ := step_codesInStep ⟨hinv.dig, hinv.code⟩ hstep
  exact
    { errcode_iff := herror.errcode_iff hinv.errcode_iff
      errcode_named := herror.errcode_named hinv.errcode_named
      pend_op := fun hb => (hpending hb).1
      pend_keylen := fun hb => (hpending hb).2.1
      not_done := fun hb => (hpending hb).2.2
      dig := hdig
      code := hcode
      held := step_held hinv.held hstep }

end Sys2Proof.Machine
end

section
/-! PROOFS. The slave port seen by the host (spec/10_state.md R21 to R50; spec/20_memory.md R70, R71): what each register
reads as, and what a write to it does. -/

namespace Sys2Proof.Machine
open Sys2Proof.Claims

/-- Settles O4: `regAt` finds only the register that stands at the offset, and finds every register at its own. -/
theorem registerMapReadsBothWays : Obligations.RegisterMapReadsBothWays := by
  refine fun off r => ⟨regAt_sound, ?_⟩
  rintro rfl
  exact regAt_regOffset r

/-! ### What the packed registers read as -/

theorem readCtrl_eq (s : State) :
    readCtrl s = BitVec.ofNat 32 (s.keyAutoclr.toNat * 4 + s.errIe.toNat * 2 + s.doneIe.toNat) := by
  unfold readCtrl
  generalize s.keyAutoclr = k, s.errIe = e, s.doneIe = d
  revert k e d
  decide

theorem readStatus_eq (s : State) :
    readStatus s =
      BitVec.ofNat 32 (s.errcode.toNat * 256 + s.err.toNat * 4 + s.done.toNat * 2 + s.busy.toNat) := by
  unfold readStatus
  generalize s.errcode = c, s.err = e, s.done = d, s.busy = b
  revert c e d b
  decide

/-- `DIGITS_W0` is the big-endian value of DIG[0..3] (R45). -/
theorem readDigits_zero (s : State) : readDigits s 0 = BitVec.ofNat 32 (beNat s.dig.toList 0) :=
  windowWord_eq_beNat s.dig 0 (by decide)

/-- The low half of `DIGITS_W1` reads 0 (R45). -/
theorem readDigits_one (s : State) :
    readDigits s 1 = BitVec.ofNat 32 (byteAt s.dig.toList 4 * 2 ^ 24 + byteAt s.dig.toList 5 * 2 ^ 16) := by
  apply BitVec.eq_of_toNat_eq
  have := s.dig[4].isLt
  have := s.dig[5].isLt
  rw [byteAt_vector s.dig 4 (by decide), byteAt_vector s.dig 5 (by decide), readDigits, be32_toNat, BitVec.toNat_ofNat]
  simp only [BitVec.toNat_ofNat]
  omega

/-- Settles O6: the read at each register's offset is `regRead` of the register (`memRead_offset`), rewritten as a number
where the register is packed. -/
theorem everyRegisterReadsAsItsRuleSays : Obligations.EveryRegisterReadsAsItsRuleSays := by
  intro s
  refine ⟨memRead_offset s .id, ?ctrl, ?status, memRead_offset s .cmd, ?keylen, memRead_offset s .timeHi,
    memRead_offset s .timeLo, memRead_offset s .ctrHi, memRead_offset s .ctrLo, ?cblk, ?mac, ?truncOff, ?dbc, ?code,
    ?digits0, ?digits1, fun i hi => memRead_offset s (.keyW ⟨i, hi⟩)⟩
  case ctrl => rw [← readCtrl_eq]; exact memRead_offset s .ctrl
  case status => rw [← readStatus_eq]; exact memRead_offset s .status
  case keylen => rw [BitVec.ofNat_toNat]; exact memRead_offset s .keylen
  case cblk =>
    intro i hi
    rw [← windowWord_eq_beNat s.cblk i (by omega)]
    exact memRead_offset s (.cblk ⟨i, hi⟩)
  case mac =>
    intro i hi
    rw [← windowWord_eq_beNat s.mac i (by omega)]
    exact memRead_offset s (.mac ⟨i, hi⟩)
  case truncOff => rw [BitVec.ofNat_toNat]; exact memRead_offset s .truncOff
  case dbc => rw [BitVec.ofNat_toNat]; exact memRead_offset s .dbc
  case code => rw [BitVec.ofNat_toNat]; exact memRead_offset s .code
  case digits0 => rw [← readDigits_zero]; exact memRead_offset s (.digits 0)
  case digits1 => rw [← readDigits_one]; exact memRead_offset s (.digits 1)

/-! ### The step of a host access -/

theorem step_issue_access (a : Access) (s : State) (h : s.inReset = false) :
    step (issue (.access a) s) = .next (accessed a s) :=
  (step_cons (issue (.access a) s) (.access a) s.events rfl).trans (takeEvent_access a s h)

/-- A 32-bit write at a register's own offset (R71). -/
theorem step_issue_wr (r : Reg) (v : Word) (s : State) (h : s.inReset = false) :
    step (issue (wr (Reg.offset r) v) s) = .next (written r v { s with resp := .okay, turn := .host }) := by
  rw [wr, step_issue_access _ s h, accessed_offset]

/-- A 32-bit read at a register's own offset (R70). -/
theorem step_issue_rd (r : Reg) (s : State) (h : s.inReset = false) :
    step (issue (rd (Reg.offset r)) s) = .next { s with resp := .data (regRead s r), turn := .host } := by
  rw [rd, step_issue_access _ s h, ← memRead_offset s r]
  rfl

/-- While idle no operand write is frozen (R132), and the read-only registers ignore a write (R71). -/
theorem written_idle {r : Reg} (hr : r ∉ [.ctrl, .status, .cmd]) (v : Word) {s : State} (h : s.busy = false) :
    written r v s = operandStore r v s := by
  cases r
  case ctrl | status | cmd => simp at hr
  case keylen | timeHi | timeLo | ctrHi | ctrLo | keyW => simp [written, operandStore, frozenWrite, h]
  all_goals rfl

/-- A 32-bit write to an operand register of an idle core (R132). -/
theorem step_issue_store {r : Reg} (hr : r ∉ [.ctrl, .status, .cmd]) (v : Word) {s : State} (h : s.inReset = false)
    (hidle : s.busy = false) :
    step (issue (wr (Reg.offset r) v) s) = .next (operandStore r v { s with resp := .okay, turn := .host }) := by
  rw [step_issue_wr r v s h, written_idle hr v (s := { s with resp := .okay, turn := .host }) hidle]

/-! ### CTRL and STATUS -/

/-- R26: CTRL gives back the three bits written to it. -/
theorem readCtrl_writeCtrl (v : Word) (s : State) : readCtrl (writeCtrl v s) = v &&& 0x00000007#32 := by
  apply BitVec.eq_of_toNat_eq
  have hlow : (v &&& 0x00000007#32).toNat = v.toNat % 2 ^ 3 := Nat.and_two_pow_sub_one_eq_mod v.toNat 3
  rw [hlow, readCtrl_eq, BitVec.toNat_ofNat]
  simp only [writeCtrl_keyAutoclr, writeCtrl_errIe, writeCtrl_doneIe, BitVec.getLsbD, Nat.toNat_testBit]
  omega

/-- Settles O8: the write is `writeCtrl`, which sets three fields that read back as written (`readCtrl_writeCtrl`). -/
theorem ctrlWriteKeepsThreeBits : Obligations.CtrlWriteKeepsThreeBits := by
  intro s v hs
  refine ⟨_, step_issue_wr .ctrl v s hs, rfl, ?_⟩
  rw [← readCtrl_writeCtrl v { s with resp := .okay, turn := .host }]
  exact memRead_offset _ .ctrl

theorem getLsbD_iff_div_mod (v : Word) (i : Nat) : v.getLsbD i = true ↔ v.toNat / 2 ^ i % 2 = 1 := by
  rw [BitVec.getLsbD, Nat.testBit_eq_decide_div_mod_eq, decide_eq_true_iff]

/-- R28, field by field. -/
theorem writeStatus_eq (v : Word) (s : State) :
    writeStatus v s = { s with
      done := if v.toNat / 2 % 2 = 1 then false else s.done
      err := if v.toNat / 4 % 2 = 1 then false else s.err
      errcode := if v.toNat / 4 % 2 = 1 then 0#4 else s.errcode } := by
  simp only [writeStatus, getLsbD_iff_div_mod, clearDone, clearError, Nat.reducePow]
  split <;> split <;> rfl

/-- Settles O9: the write is `writeStatus` field by field (`writeStatus_eq`), the read returns `readStatus`
(`readStatus_eq`). -/
theorem statusWritesClearByOneAndReadsPack : Obligations.StatusWritesClearByOneAndReadsPack := by
  intro s v hs
  refine ⟨(step_issue_wr .status v s hs).trans ?_, (step_issue_rd .status s hs).trans ?_⟩
  · rw [written, writeStatus_eq]
  · rw [regRead, readStatus_eq]; rfl

/-- Settles O54: `irq` is its formula, and the two writes are `writeStatus` and `writeCtrl`. -/
theorem irqFollowsStatusAndEnables : Obligations.IrqFollowsStatusAndEnables := by
  refine ⟨rfl, fun s => by simp [irq], fun s hs => ?_⟩
  refine ⟨_, _, step_issue_wr .status 0x6#32 s hs, ?_, step_issue_wr .ctrl 0x0#32 s hs, ?_, rfl, rfl⟩
  · simp [irq, written, writeStatus_eq]
  · simp [irq, written]

/-! ### Data registers -/

/-- The registers a write never changes stand at 0x000 and from 0x028 to 0x054 (R50, R71). -/
theorem written_readOnly {r : Reg}
    (h : (Reg.offset r).toNat = 0x000 ∨ (0x028 ≤ (Reg.offset r).toNat ∧ (Reg.offset r).toNat ≤ 0x054))
    (v : Word) (s : State) : written r v s = s := by
  cases r
  case keyW i => simp [Reg.offset] at h; omega
  case ctrl | status | cmd | keylen | timeHi | timeLo | ctrHi | ctrLo => simp [Reg.offset] at h
  all_goals rfl

/-- Settles O10: a register stands at each of these offsets (`regAt_isSome`), and a write leaves it alone
(`written_readOnly`). -/
theorem readOnlyWritesAreIgnored : Obligations.ReadOnlyWritesAreIgnored := by
  intro s off v hs hoff
  obtain ⟨r, hr⟩ := Option.isSome_iff_exists.1 ((regAt_isSome off).2 (by omega))
  obtain rfl := regAt_sound hr
  rw [step_issue_wr r v s hs, written_readOnly (by omega)]

/-- Settles O11: each write is an idle store (`step_issue_store`); KEYLEN keeps the low byte. -/
theorem idleOperandWritesStore : Obligations.IdleOperandWritesStore := by
  intro s v hs hidle
  have hkeylen : v.extractLsb' 0 8 = BitVec.ofNat 8 (v.toNat % 256) := BitVec.eq_of_toNat_eq (by simp)
  rw [← hkeylen]
  exact ⟨step_issue_store (r := .keylen) (by decide) v hs hidle, step_issue_store (r := .timeHi) (by decide) v hs hidle,
    step_issue_store (r := .timeLo) (by decide) v hs hidle, step_issue_store (r := .ctrHi) (by decide) v hs hidle,
    step_issue_store (r := .ctrLo) (by decide) v hs hidle⟩

/-- Settles O12: the write is `storeKey`, whose bytes `setWindowWord_getElem` gives. -/
theorem idleKeyWriteSetsFourBytes : Obligations.IdleKeyWriteSetsFourBytes := by
  intro s i v hs hidle hi
  refine ⟨_, step_issue_store (r := .keyW ⟨i, hi⟩) (by simp) v hs hidle, rfl, fun j hj => ?_⟩
  rw [byteAt_vector _ j hj, byteAt_vector _ j hj, operandStore, storeKey_key, setWindowWord_getElem]
  split
  · rw [wordByte_toNat]
  · rfl

/-- Settles O14: the write reaches CMD, and `exec` in the host's turn is what `cmdWritten` makes of the decoded word. -/
theorem stepRunsTheDecodedCommand : Obligations.StepRunsTheDecodedCommand := by
  intro s w i hs _ hdec
  rw [exec_host i _ rfl]
  refine (step_issue_wr .cmd w s hs).trans ?_
  rw [written, cmdWritten, hdec]

/-- The reset state meets the invariant (R271). -/
theorem reset_inv : State.reset.Inv where
  errcode_iff := by decide
  errcode_named := by decide
  pend_op := nofun
  pend_keylen := nofun
  not_done := nofun
  dig := .inl rfl
  code := by decide
  held := nofun

/-- Settles O45: every element by its definition, the two reads by `memRead_offset`. -/
theorem resetLeavesTheTabledValues : Obligations.ResetLeavesTheTabledValues := by
  refine ⟨reset_inv, rfl, rfl, rfl, rfl, rfl, rfl, rfl, rfl, rfl, Vector.toList_replicate, rfl, rfl, rfl, rfl, rfl, rfl,
    rfl, rfl, rfl, rfl, rfl, rfl, memRead_offset _ .id, memRead_offset _ .ctrl⟩

end Sys2Proof.Machine
end

section
/-! PROOFS. Completions (spec/41_counter_encoder.md R153; spec/30_encoding.md R103; spec/40_execution.md R139): what ENCODE
leaves, and what each command's results depend on. -/

namespace Sys2Proof.Machine
open Sys2Proof.Claims

theorem becomesPending_of_pends {i : Instr} (h : Pends i) : becomesPending i = true := by
  cases i
  case tstep | encode | hmac | trunc | hotp | totp | keyclr | zeroize => rfl
  all_goals simp [Pends] at h

/-- A pending command completes (R135). -/
theorem exec_of_pending {i : Instr} {s : State} (hi : becomesPending i = true) (h : Pending i s) :
    exec i s = .next (completed i s) := by
  obtain ⟨hturn, hbusy, hop⟩ := h
  exact exec_pending i s hturn hi hbusy hop

/-- AutoClear is for the keyed commands only (R136). -/
theorem completed_of_not_keyed {i : Instr} (h : isKeyed (opcode i) = false) (s : State) :
    completed i s = finishCommand (commandEffect i s) := by
  simp [completed, autoClear, h]

/-- R43, R152: the two window words of a counter block are the halves of the counter. -/
theorem windowWord_bytes64 (hi lo : Word) :
    windowWord (bytes64 (hi ++ lo)) 0 (by decide) = hi ∧ windowWord (bytes64 (hi ++ lo)) 1 (by decide) = lo := by
  have := hi.isLt
  have := lo.isLt
  refine ⟨BitVec.eq_of_toNat_eq ?_, BitVec.eq_of_toNat_eq ?_⟩
  all_goals
    simp only [windowWord, be32_toNat, bytes64_getElem, quadByte_toNat, append_word_toNat]
    omega

theorem encodeEffect_holdsCounterBlock (s : State) : HoldsCounterBlock (ctrNat s) (encodeEffect s) := by
  intro i hi
  rw [byteAt_vector _ i hi, encodeEffect_cblk, bytes64_getElem, quadByte_toNat, ctr_toNat, ctrNat,
    show 56 - 8 * i = 8 * (7 - i) by omega]

/-- Settles O24: ENCODE clears no key, so the completion is its effect and the two status bits; the two window words are the
halves of the counter (`windowWord_bytes64`). -/
theorem encodeWritesTheCounterBlock : Obligations.EncodeWritesTheCounterBlock := by
  intro s hs
  obtain ⟨hhi, hlo⟩ := windowWord_bytes64 s.ctrHi s.ctrLo
  refine ⟨finishCommand (encodeEffect s), ?_, encodeEffect_holdsCounterBlock s, rfl, ?_, ?_⟩
  · rw [exec_of_pending rfl hs, completed_of_not_keyed rfl]; rfl
  · exact (memRead_offset _ (.cblk 0)).trans (congrArg Response.data hhi)
  · exact (memRead_offset _ (.cblk 1)).trans (congrArg Response.data hlo)

/-! ### Two runs of one effect (R139) -/

section
variable {s u : State}

theorem tstepEffect_ctr_congr (hhi : s.timeHi = u.timeHi) (hlo : s.timeLo = u.timeLo) :
    (tstepEffect s).ctrHi = (tstepEffect u).ctrHi ∧ (tstepEffect s).ctrLo = (tstepEffect u).ctrLo := by
  simp [time, hhi, hlo]

theorem encodeEffect_cblk_congr (hhi : s.ctrHi = u.ctrHi) (hlo : s.ctrLo = u.ctrLo) :
    (encodeEffect s).cblk = (encodeEffect u).cblk := by
  simp [ctr, hhi, hlo]

/-- The key of R180 is all the tag needs of KEY and KEYLEN. -/
theorem hmacEffect_mac_congr (hkey : keyOf s = keyOf u) (hcblk : s.cblk = u.cblk) :
    (hmacEffect s).mac = (hmacEffect u).mac := by
  have hbytes : keyBytes s = keyBytes u := hkey
  rw [hmacEffect_mac, hmacEffect_mac, hbytes, hcblk]

theorem truncEffect_codesAgree (hmac : s.mac = u.mac) : CodesAgree (truncEffect s) (truncEffect u) := by
  simp [CodesAgree, hmac]

/-- The three stages of HOTP, each from the one before it (R220). -/
theorem hotpEffect_congr (hhi : s.ctrHi = u.ctrHi) (hlo : s.ctrLo = u.ctrLo) (hkey : keyOf s = keyOf u) :
    (hotpEffect s).cblk = (hotpEffect u).cblk ∧ (hotpEffect s).mac = (hotpEffect u).mac ∧
      CodesAgree (hotpEffect s) (hotpEffect u) := by
  have hcblk := encodeEffect_cblk_congr hhi hlo
  have hmac := hmacEffect_mac_congr (s := encodeEffect s) (u := encodeEffect u) hkey hcblk
  exact ⟨hcblk, hmac, truncEffect_codesAgree hmac⟩

/-- AutoClear leaves the same KEY and KEYLEN in both runs (R136). -/
theorem completed_key_congr {i : Instr} (hkeyed : isKeyed (opcode i) = true) (hacl : s.pendAcl = u.pendAcl)
    (h : s.pendAcl = true) :
    (completed i s).key = (completed i u).key ∧ (completed i s).keylen = (completed i u).keylen := by
  simp [completed_key, completed_keylen, hkeyed, ← hacl, h]

theorem completed_codesAgree_congr {i : Instr} (h : CodesAgree (commandEffect i s) (commandEffect i u)) :
    CodesAgree (completed i s) (completed i u) := by
  simpa [CodesAgree] using h

end

/-- R139, by the command: each result is a function of the registers `ReadsAgree` names. -/
theorem completed_writesAgree {i : Instr} {s u : State} (h : ReadsAgree i s u) :
    WritesAgree s.pendAcl i (completed i s) (completed i u) := by
  cases i
  case tstep =>
    obtain ⟨hhi, hlo⟩ := h
    simp only [WritesAgree, completed_ctrHi, completed_ctrLo]
    exact tstepEffect_ctr_congr hhi hlo
  case encode =>
    obtain ⟨hhi, hlo⟩ := h
    simp only [WritesAgree, completed_cblk]
    exact encodeEffect_cblk_congr hhi hlo
  case hmac =>
    obtain ⟨hkey, hcblk, hacl⟩ := h
    refine ⟨?_, completed_key_congr rfl hacl⟩
    rw [completed_mac, completed_mac]
    exact hmacEffect_mac_congr hkey hcblk
  case trunc => exact completed_codesAgree_congr (truncEffect_codesAgree h)
  case hotp =>
    obtain ⟨hhi, hlo, hkey, hacl⟩ := h
    obtain ⟨hcblk, hmac, hcodes⟩ := hotpEffect_congr hhi hlo hkey
    refine ⟨?_, ?_, completed_codesAgree_congr hcodes, completed_key_congr rfl hacl⟩
    · rw [completed_cblk, completed_cblk]; exact hcblk
    · rw [completed_mac, completed_mac]; exact hmac
  case totp =>
    obtain ⟨hhi, hlo, hkey, hacl⟩ := h
    obtain ⟨hctrHi, hctrLo⟩ := tstepEffect_ctr_congr hhi hlo
    obtain ⟨hcblk, hmac, hcodes⟩ := hotpEffect_congr (s := tstepEffect s) (u := tstepEffect u) hctrHi hctrLo hkey
    refine ⟨?_, ?_, ?_, ?_, completed_codesAgree_congr hcodes, completed_key_congr rfl hacl⟩
    · rw [completed_ctrHi, completed_ctrHi]; exact hctrHi
    · rw [completed_ctrLo, completed_ctrLo]; exact hctrLo
    · rw [completed_cblk, completed_cblk]; exact hcblk
    · rw [completed_mac, completed_mac]; exact hmac
  case keyclr | zeroize => simp [WritesAgree, CodesAgree, completed_key, completed_keylen, commandEffect]
  all_goals trivial

/-- Settles O32: both commands complete (`exec_of_pending`), and their results agree (`completed_writesAgree`). -/
theorem resultsDependOnTheOperandsAlone : Obligations.ResultsDependOnTheOperandsAlone :=
  fun _ _ _ hi hs hu h =>
    ⟨_, _, exec_of_pending (becomesPending_of_pends hi) hs, exec_of_pending (becomesPending_of_pends hi) hu,
      completed_writesAgree h⟩

end Sys2Proof.Machine
end

section
/-! PROOFS. Which steps write each operand and result register (spec/10_state.md R32 to R40): apart from resets, a register
changes in an idle host write to it or in the completion of a command that writes it. -/

namespace Sys2Proof.Machine
open Sys2Proof.Claims

/-- `s` and `t` agree on every operand and result register (R31 to R40). -/
structure SameData (s t : State) : Prop where
  keylen : t.keylen = s.keylen
  timeHi : t.timeHi = s.timeHi
  timeLo : t.timeLo = s.timeLo
  ctrHi : t.ctrHi = s.ctrHi
  ctrLo : t.ctrLo = s.ctrLo
  key : t.key = s.key
  cblk : t.cblk = s.cblk
  mac : t.mac = s.mac
  codes : CodesAgree t s

/-- What a step other than a reset does to the data registers: nothing, a host store, or a completion, from a state `u` that
holds the data of `s`. -/
inductive DataMove (s : State) : State → Prop where
  | nothing {t : State} (h : SameData s t) : DataMove s t
  | store (r : Reg) (v : Word) (u : State) (rest : List Event) (hidle : s.busy = false)
      (hnext : s.events = wr (Reg.offset r) v :: rest) (hu : SameData s u) : DataMove s (operandStore r v u)
  | complete (i : Instr) (u : State) (hnext : CompletesNext (opcode i) s) (hu : SameData s u)
      (hacl : u.pendAcl = s.pendAcl) : DataMove s (completed i u)

theorem SameData.trans {s t u : State} (h : SameData s t) (h' : SameData t u) : SameData s u := by
  obtain ⟨htrunc, hdbc, hcode, hdig⟩ := h.codes
  obtain ⟨htrunc', hdbc', hcode', hdig'⟩ := h'.codes
  exact ⟨h'.keylen.trans h.keylen, h'.timeHi.trans h.timeHi, h'.timeLo.trans h.timeLo, h'.ctrHi.trans h.ctrHi,
    h'.ctrLo.trans h.ctrLo, h'.key.trans h.key, h'.cblk.trans h.cblk, h'.mac.trans h.mac,
    htrunc'.trans htrunc, hdbc'.trans hdbc, hcode'.trans hcode, hdig'.trans hdig⟩

/-- The fields that are no operand and no result hold no data. -/
theorem sameData_control (s : State) (die eie kac busy done err acl rst : Bool) (ec op : Op) (es : List Event)
    (resp : Response) (turn : Agent) :
    SameData s { s with
      doneIe := die, errIe := eie, keyAutoclr := kac, busy := busy, done := done, err := err, errcode := ec, pendOp := op,
      pendAcl := acl, inReset := rst, events := es, resp := resp, turn := turn } :=
  ⟨rfl, rfl, rfl, rfl, rfl, rfl, rfl, rfl, rfl, rfl, rfl, rfl⟩

theorem errorEvent_sameData (c : ErrorCode) (s : State) : SameData s (errorEvent c s) := by
  constructor <;> simp [CodesAgree]

theorem writeStatus_sameData (v : Word) (s : State) : SameData s (writeStatus v s) := by
  rw [writeStatus_eq]
  exact sameData_control s ..

/-- A host access stores an operand while idle, or moves no data, unless it is an SRESET. -/
theorem AccessMove.dataMove {a : Access} {s u t : State} {rest : List Event} (h : AccessMove a u t) (hu : SameData s u)
    (hbusy : u.busy = s.busy) (hnext : s.events = .access a :: rest) (hreset : ¬ ResetsNext s) : DataMove s t := by
  cases h with
  | nothing => exact .nothing hu
  | error c => exact .nothing (hu.trans (errorEvent_sameData c u))
  | ctrl v => exact .nothing (hu.trans (sameData_control u ..))
  | status v => exact .nothing (hu.trans (writeStatus_sameData v u))
  | sreset ha => exact absurd (.inr ⟨rest, by rw [hnext, ha]; rfl⟩) hreset
  | start => exact .nothing (hu.trans (sameData_control u ..))
  | store r v ha hidle => exact .store r v u rest (hbusy ▸ hidle) (by rw [hnext, ha]; rfl) hu

theorem step_dataMove {s t : State} (h : step s = .next t) (hreset : ¬ ResetsNext s) : DataMove s t := by
  obtain ⟨-, -, rfl⟩ | ⟨henabled, hnext, -, rfl⟩ | ⟨a, hnext, -, rfl⟩ | ⟨hnext, -⟩ | ⟨-, rfl⟩ := step_cases h
  · exact .nothing (sameData_control s ..)
  · obtain ⟨hbusy, hreleased⟩ : s.busy = true ∧ s.inReset = false := by simpa [coreEnabled] using henabled
    exact .complete _ _ ⟨hbusy, hreleased, (opcode_instrOfOp _).symm, hnext.imp_right List.head?_eq_some_iff.1⟩
      (sameData_control s ..) rfl
  · obtain ⟨rest, hevents⟩ := List.head?_eq_some_iff.1 hnext
    exact (accessed_move a (popped s)).dataMove (sameData_control s ..) rfl hevents hreset
  · exact absurd (.inl (List.head?_eq_some_iff.1 hnext)) hreset
  · exact .nothing (sameData_control s ..)

/-- A register that a step other than a reset changes: the step is an idle host write at an offset whose store changes it, or
a completion that changes it. -/
theorem register_change {α : Type} (reg : State → α) (hreg : ∀ {s t}, SameData s t → reg t = reg s) (offs : List Offset)
    (hstore : ∀ r v u, reg (operandStore r v u) ≠ reg u → Reg.offset r ∈ offs) {s t : State} (hstep : step s = .next t)
    (hreset : ¬ ResetsNext s) (hne : reg t ≠ reg s) :
    WritesNext offs s ∨
      ∃ i u, CompletesNext (opcode i) s ∧ u.pendAcl = s.pendAcl ∧ reg (completed i u) ≠ reg u := by
  cases step_dataMove hstep hreset with
  | nothing h => exact absurd (hreg h) hne
  | store r v u rest hidle hnext hu =>
    exact .inl ⟨hidle, _, v, rest, hstore r v u (by rwa [hreg hu]), hnext⟩
  | complete i u hnext hu hacl => exact .inr ⟨i, u, hnext, hacl, by rwa [hreg hu]⟩

/-- The same, with the opcodes of the completions that change the register. -/
theorem register_change_by {α : Type} (reg : State → α) (hreg : ∀ {s t}, SameData s t → reg t = reg s)
    (offs : List Offset) (hstore : ∀ r v u, reg (operandStore r v u) ≠ reg u → Reg.offset r ∈ offs) (ops : List Op)
    (hcomplete : ∀ i u, reg (completed i u) ≠ reg u → opcode i ∈ ops) {s t : State} (hstep : step s = .next t)
    (hreset : ¬ ResetsNext s) (hne : reg t ≠ reg s) : WritesNext offs s ∨ ∃ op ∈ ops, CompletesNext op s :=
  (register_change reg hreg offs hstore hstep hreset hne).imp_right fun ⟨i, u, hnext, _, hchange⟩ =>
    ⟨opcode i, hcomplete i u hchange, hnext⟩

/-- The same for a result register, which no host write reaches. -/
theorem result_change {α : Type} (reg : State → α) (hreg : ∀ {s t}, SameData s t → reg t = reg s)
    (hstore : ∀ r v u, reg (operandStore r v u) = reg u) (ops : List Op)
    (hcomplete : ∀ i u, reg (completed i u) ≠ reg u → opcode i ∈ ops) {s t : State} (hstep : step s = .next t)
    (hreset : ¬ ResetsNext s) (hne : reg t ≠ reg s) : ∃ op ∈ ops, CompletesNext op s := by
  obtain ⟨-, off, -, -, hoff, -⟩ | hops := register_change_by reg hreg [] (fun r v u h => absurd (hstore r v u) h) ops
    hcomplete hstep hreset hne
  · cases hoff
  · exact hops

/-- The same for KEY and KEYLEN, which AutoClear changes too. -/
theorem key_change {α : Type} (reg : State → α) (hreg : ∀ {s t}, SameData s t → reg t = reg s) (offs : List Offset)
    (hstore : ∀ r v u, reg (operandStore r v u) ≠ reg u → Reg.offset r ∈ offs)
    (hcomplete : ∀ i u, reg (completed i u) ≠ reg u →
      opcode i ∈ [0x7#4, 0x8#4] ∨ (u.pendAcl = true ∧ opcode i ∈ [0x3#4, 0x5#4, 0x6#4]))
    {s t : State} (hstep : step s = .next t) (hreset : ¬ ResetsNext s) (hne : reg t ≠ reg s) :
    WritesNext offs s ∨ (∃ op ∈ [0x7#4, 0x8#4], CompletesNext op s) ∨
      (s.pendAcl = true ∧ ∃ op ∈ [0x3#4, 0x5#4, 0x6#4], CompletesNext op s) := by
  refine (register_change reg hreg offs hstore hstep hreset hne).imp_right ?_
  rintro ⟨i, u, hnext, hacl, hchange⟩
  exact (hcomplete i u hchange).imp (fun hop => ⟨_, hop, hnext⟩) fun ⟨hu, hop⟩ => ⟨hacl ▸ hu, _, hop, hnext⟩

/-! ### Which host writes and which commands change which register -/

/-- TRUNC_OFF, DBC, CODE and DIG together. -/
def codeRegs (s : State) : BitVec 4 × BitVec 31 × BitVec 20 × Vector Byte 6 := (s.truncOff, s.dbc, s.code, s.dig)

theorem codesAgree_iff (t s : State) : CodesAgree t s ↔ codeRegs t = codeRegs s := by
  simp [CodesAgree, codeRegs]

section
variable {r : Reg} {v : Word} {i : Instr} {u : State}

theorem operandStore_time_changes (h : timeNat (operandStore r v u) ≠ timeNat u) :
    Reg.offset r ∈ [0x018#12, 0x01C#12] := by
  cases r
  case timeHi | timeLo => decide
  all_goals exact absurd rfl h

theorem operandStore_ctr_changes (h : ctrNat (operandStore r v u) ≠ ctrNat u) :
    Reg.offset r ∈ [0x020#12, 0x024#12] := by
  cases r
  case ctrHi | ctrLo => decide
  all_goals exact absurd rfl h

theorem operandStore_keylen_changes (h : (operandStore r v u).keylen ≠ u.keylen) : Reg.offset r ∈ [0x010#12] := by
  cases r
  case keylen => decide
  all_goals exact absurd rfl h

theorem operandStore_key_changes (h : (operandStore r v u).key ≠ u.key) :
    Reg.offset r ∈ (List.range 32).map fun i => BitVec.ofNat 12 (0x100 + 4 * i) := by
  cases r
  case keyW i => exact List.mem_map.2 ⟨i, List.mem_range.2 i.isLt, rfl⟩
  all_goals exact absurd rfl h

theorem completed_cblk_changes (h : (completed i u).cblk ≠ u.cblk) : opcode i ∈ [0x2#4, 0x5#4, 0x6#4, 0x8#4] := by
  rw [completed_cblk] at h
  cases i
  case encode | hotp | totp | zeroize => decide
  all_goals exact absurd rfl h

theorem completed_mac_changes (h : (completed i u).mac ≠ u.mac) : opcode i ∈ [0x3#4, 0x5#4, 0x6#4, 0x8#4] := by
  rw [completed_mac] at h
  cases i
  case hmac | hotp | totp | zeroize => decide
  all_goals exact absurd rfl h

theorem completed_codes_changes (h : codeRegs (completed i u) ≠ codeRegs u) : opcode i ∈ [0x4#4, 0x5#4, 0x6#4, 0x8#4] := by
  rw [(codesAgree_iff _ _).1 (completed_codesAgree i u)] at h
  cases i
  case trunc | hotp | totp | zeroize => decide
  all_goals exact absurd rfl h

theorem completed_time_changes (h : timeNat (completed i u) ≠ timeNat u) : opcode i ∈ [0x8#4] := by
  rw [timeNat, completed_timeHi, completed_timeLo] at h
  cases i
  case zeroize => decide
  all_goals exact absurd rfl h

theorem completed_ctr_changes (h : ctrNat (completed i u) ≠ ctrNat u) : opcode i ∈ [0x1#4, 0x6#4, 0x8#4] := by
  rw [ctrNat, completed_ctrHi, completed_ctrLo] at h
  cases i
  case tstep | totp | zeroize => decide
  all_goals exact absurd rfl h

/-- KEY and KEYLEN are kept by a completion that is no KEYCLR, no ZEROIZE and clears no key (R136). -/
theorem completed_keeps_key
    (h : ¬ (opcode i ∈ [0x7#4, 0x8#4] ∨ (u.pendAcl = true ∧ opcode i ∈ [0x3#4, 0x5#4, 0x6#4]))) :
    (completed i u).key = u.key ∧ (completed i u).keylen = u.keylen := by
  obtain ⟨hclear, hacl⟩ := not_or.1 h
  have hkept : (u.pendAcl && isKeyed (opcode i)) = false := by
    simpa [isKeyed, and_assoc] using hacl
  rw [completed_key, completed_keylen, hkept]
  cases i
  case keyclr | zeroize => exact absurd (by decide) hclear
  all_goals exact ⟨rfl, rfl⟩

end

/-- Settles O52: `result_change`, `register_change_by` and `key_change`, one use for each register. -/
theorem onlyNamedStepsWriteEachRegister : Obligations.OnlyNamedStepsWriteEachRegister := by
  intro s t hstep hreset
  refine ⟨?cblk, ?mac, ?codes, ?time, ?ctr, ?keylen, ?key⟩
  case cblk =>
    exact result_change State.cblk (·.cblk) (fun r _ _ => by cases r <;> rfl) _ (fun _ _ => completed_cblk_changes)
      hstep hreset
  case mac =>
    exact result_change State.mac (·.mac) (fun r _ _ => by cases r <;> rfl) _ (fun _ _ => completed_mac_changes)
      hstep hreset
  case codes =>
    rw [codesAgree_iff]
    exact result_change codeRegs (fun h => (codesAgree_iff _ _).1 h.codes) (fun r _ _ => by cases r <;> rfl) _
      (fun _ _ => completed_codes_changes) hstep hreset
  case time =>
    intro hne
    obtain hwrite | ⟨op, hop, hnext⟩ := register_change_by timeNat
      (fun h => by rw [timeNat, timeNat, h.timeHi, h.timeLo]) _ (fun _ _ _ => operandStore_time_changes) _
      (fun _ _ => completed_time_changes) hstep hreset hne
    · exact .inl hwrite
    · exact .inr (List.mem_singleton.1 hop ▸ hnext)
  case ctr =>
    exact register_change_by ctrNat (fun h => by rw [ctrNat, ctrNat, h.ctrHi, h.ctrLo]) _
      (fun _ _ _ => operandStore_ctr_changes) _ (fun _ _ => completed_ctr_changes) hstep hreset
  case keylen =>
    exact key_change State.keylen (·.keylen) _ (fun _ _ _ => operandStore_keylen_changes)
      (fun _ _ => not_imp_comm.1 fun h => (completed_keeps_key h).2) hstep hreset
  case key =>
    exact key_change State.key (·.key) _ (fun _ _ _ => operandStore_key_changes)
      (fun _ _ => not_imp_comm.1 fun h => (completed_keeps_key h).1) hstep hreset

end Sys2Proof.Machine
end

section
/-! PROOFS. The key cannot be read back (spec/10_state.md R34): no operation of the slave port lets KEY reach another part
of the state. -/

namespace Sys2Proof.Machine
open Sys2Proof.Claims

/-- `f` takes states that differ only in KEY to states that differ at most in KEY. -/
def KeyBlind (f : State → State) : Prop := ∀ s k, ∃ k', f { s with key := k } = { f s with key := k' }

theorem KeyBlind.id : KeyBlind fun s => s := fun _ k => ⟨k, rfl⟩

/-- A choice that does not look at KEY. -/
theorem KeyBlind.ite {c : State → Bool} (hc : ∀ s k, c { s with key := k } = c s) {f g : State → State}
    (hf : KeyBlind f) (hg : KeyBlind g) : KeyBlind fun s => if c s then f s else g s := by
  intro s k
  simp only [hc]
  split
  · exact hf s k
  · exact hg s k

theorem errorEvent_keyBlind (c : ErrorCode) : KeyBlind (errorEvent c) :=
  .ite (c := State.err) (fun _ _ => rfl) .id fun _ k => ⟨k, rfl⟩

theorem rejectIllegal_keyBlind : KeyBlind rejectIllegal := by
  intro s k
  exact errorEvent_keyBlind _ s k

theorem acceptCommand_keyBlind (op : Op) : KeyBlind (acceptCommand op) :=
  .ite (c := State.busy) (fun _ _ => rfl) (errorEvent_keyBlind _)
    (.ite (c := fun s => isKeyed op && keylenTooLong s) (fun _ _ => rfl) (errorEvent_keyBlind _) fun _ k => ⟨k, rfl⟩)

/-- A reset forgets KEY with everything else (R226). -/
theorem softReset_keyBlind : KeyBlind softReset := fun _ _ => ⟨_, rfl⟩

theorem presented_keyBlind (i : Instr) : KeyBlind (presented i) := by
  cases i
  case nop => exact .ite (c := State.busy) (fun _ _ => rfl) (errorEvent_keyBlind _) .id
  case sreset => exact softReset_keyBlind
  case tstep | encode | hmac | trunc | hotp | totp | keyclr | zeroize => exact acceptCommand_keyBlind _
  all_goals exact rejectIllegal_keyBlind

theorem cmdWritten_keyBlind (v : Word) : KeyBlind (cmdWritten v) := by
  unfold cmdWritten
  split
  · exact presented_keyBlind _
  · exact rejectIllegal_keyBlind

theorem frozenWrite_keyBlind {store : State → State} (h : KeyBlind store) : KeyBlind (frozenWrite store) :=
  .ite (c := State.busy) (fun _ _ => rfl) (errorEvent_keyBlind _) h

theorem writeStatus_keyBlind (v : Word) : KeyBlind (writeStatus v) := by
  intro s k
  rw [writeStatus_eq, writeStatus_eq]
  exact ⟨k, rfl⟩

theorem written_keyBlind (r : Reg) (v : Word) : KeyBlind (written r v) := by
  cases r
  case ctrl => exact fun _ k => ⟨k, rfl⟩
  case status => exact writeStatus_keyBlind v
  case cmd => exact cmdWritten_keyBlind v
  case keylen | timeHi | timeLo | ctrHi | ctrLo => exact frozenWrite_keyBlind fun _ k => ⟨k, rfl⟩
  case keyW i => exact frozenWrite_keyBlind fun _ k => ⟨_, rfl⟩
  all_goals exact .id

/-- No register reads from KEY: its window is write-only (R34). -/
theorem memRead_setKey (s : State) (k : Vector Byte 128) (off : Offset) (size : Nat) :
    memRead { s with key := k } off size = memRead s off size := by
  unfold memRead
  split
  case h_1 r _ => cases r <;> rfl
  case h_2 => rfl

theorem accessed_keyBlind (a : Access) : KeyBlind (accessed a) := by
  intro s k
  unfold accessed
  split
  · exact ⟨k, by rw [memRead_setKey]⟩
  · exact written_keyBlind _ _ { s with resp := .okay, turn := .host } k
  · exact ⟨k, rfl⟩

/-- A host access is served only with `rst_n` released (R271). -/
theorem released_of_step_access {a : Access} {s t : State} (h : step (issue (.access a) s) = .next t) :
    s.inReset = false := by
  cases hs : s.inReset with
  | true => simp [step, nextStep, issue, takeEvent, hs] at h
  | false => rfl

/-- Settles O53: what a host access makes of the state is blind to KEY (`accessed_keyBlind`). -/
theorem hostAccessesNeverRevealTheKey : Obligations.HostAccessesNeverRevealTheKey := by
  intro s t k a hstep
  have hs := released_of_step_access hstep
  rw [step_issue_access a s hs] at hstep
  cases hstep
  obtain ⟨k', hk'⟩ := accessed_keyBlind a s k
  exact ⟨k', by rw [step_issue_access a { s with key := k } hs, hk']⟩

end Sys2Proof.Machine
end

section
/-! PROOFS. `ldkey` (spec/30_encoding.md R111, R112): the host writes the key words one by one, then KEYLEN. -/

namespace Sys2Proof.Machine
open Sys2Proof.Claims

@[simp] theorem operandStore_resp (r : Reg) (v : Word) (s : State) : (operandStore r v s).resp = s.resp := by
  cases r <;> rfl

/-- A host turn at a store statement, on an idle core: the store is made and the position moves on. -/
theorem hostRun_store {p : List HostStmt} {r : Reg} {v : Word} {h : HostCtx} {s : State} (rest : List Agent)
    (hp : p[h.pos]? = some (.wr (Reg.offset r) v)) (hr : r ∉ [.ctrl, .status, .cmd]) (hs : s.inReset = false)
    (hidle : s.busy = false) :
    hostRun p (.host :: rest) h s =
      hostRun p rest { h with pos := h.pos + 1 } (operandStore r v { s with resp := .okay, turn := .host }) := by
  have hwrite := written_idle hr v (s := { s with resp := .okay, turn := .host }) hidle
  have hturn : hostTurn p h s =
      .next ({ h with pos := h.pos + 1 }, operandStore r v { s with resp := .okay, turn := .host }) := by
    simp only [hostTurn, hp, hostExec, takeEvent_access _ s hs, accessed_offset, hostNext, hwrite, operandStore_resp,
      hostData]
  simp only [hostRun, hturn]

/-- The number of key words `ldkey` writes. -/
def keyWords (b : List Byte) : Nat := (b.length + 3) / 4

theorem asmLdkey_length (b : List Byte) : (asmLdkey b).length = keyWords b + 1 := by
  simp [asmLdkey, keyWords]

theorem asmLdkey_word {b : List Byte} {m : Nat} (hm : m < keyWords b) (h32 : m < 32) :
    (asmLdkey b)[m]? = some (.wr (Reg.offset (.keyW ⟨m, h32⟩)) (be32At b m)) := by
  unfold keyWords at hm
  rw [asmLdkey, List.getElem?_append_left (by simpa using hm), List.getElem?_map, List.getElem?_range hm]
  rfl

theorem asmLdkey_keylen (b : List Byte) :
    (asmLdkey b)[keyWords b]? = some (.wr (Reg.offset .keylen) (BitVec.ofNat 32 b.length)) := by
  rw [asmLdkey, List.getElem?_append_right (by simp [keyWords])]
  simp [keyWords]

/-- After `m` words of `ldkey b` from `s`: the words are in KEY, and nothing else has changed. -/
structure KeyLoading (b : List Byte) (m : Nat) (s t : State) : Prop where
  frame : t = { s with key := t.key, resp := t.resp, turn := t.turn }
  loaded : ∀ j (hj : j < 128), j < 4 * m → t.key[j] = b.getD j 0#8

theorem KeyLoading.busy {b : List Byte} {m : Nat} {s t : State} (h : KeyLoading b m s t) : t.busy = s.busy := by
  rw [h.frame]

theorem KeyLoading.inReset {b : List Byte} {m : Nat} {s t : State} (h : KeyLoading b m s t) : t.inReset = s.inReset := by
  rw [h.frame]

/-- One more word (R42). -/
theorem KeyLoading.storeKey {b : List Byte} {m : Nat} {s t : State} (h : KeyLoading b m s t) (hm : m < 32) :
    KeyLoading b (m + 1) s (storeKey ⟨m, hm⟩ (be32At b m) { t with resp := .okay, turn := .host }) := by
  constructor
  case frame => rw [h.frame]; rfl
  case loaded =>
    intro j hj hlt
    rw [storeKey_key, setWindowWord_getElem]
    split
    case isTrue hword =>
      have hm' : j / 4 = m := hword
      rw [wordByte_be32At b m (j % 4) (Nat.mod_lt _ (by decide)), show 4 * m + j % 4 = j by omega]
    case isFalse hword =>
      have hm' : j / 4 ≠ m := hword
      exact h.loaded j hj (by omega)

/-- The key of R180 is `b` when KEYLEN is its length and KEY starts with its bytes. -/
theorem keyOf_eq {b : List Byte} {t : State} (hb : b.length ≤ 128) (hlen : t.keylen.toNat = b.length)
    (hkey : ∀ j (hj : j < 128), j < b.length → t.key[j] = b.getD j 0#8) : keyOf t = b := by
  apply List.ext_getElem
  · simpa [keyOf, hlen] using hb
  · intro j _ hjb
    simpa [keyOf, hjb] using hkey j (by omega) hjb

/-- The rest of `ldkey`, by induction on the key words still to write. -/
theorem hostRun_asmLdkey {b : List Byte} (hb : b.length ≤ 128) {s : State} (hs : s.inReset = false)
    (hidle : s.busy = false) (k : Nat) : ∀ {m : Nat} {h : HostCtx} {t : State}, h.pos = m → m + k = keyWords b →
      KeyLoading b m s t →
      ∃ h' u, hostRun (asmLdkey b) (List.replicate (k + 1) .host) h t = .next (h', u) ∧ keyOf u = b ∧
        u = { s with key := u.key, keylen := u.keylen, resp := .okay, turn := .host } := by
  induction k with
  | zero =>
    intro m h t hpos hm hload
    obtain rfl : m = keyWords b := hm
    have hrun := hostRun_store [] (r := .keylen) (hpos ▸ asmLdkey_keylen b) (by decide) (hload.inReset.trans hs)
      (hload.busy.trans hidle)
    refine ⟨_, _, hrun, keyOf_eq hb ?_ fun j hj hjb => hload.loaded j hj ?_, ?_⟩
    · simp [operandStore]
      omega
    · unfold keyWords
      omega
    · rw [hload.frame]; rfl
  | succ k ih =>
    intro m h t hpos hm hload
    subst hpos
    have h32 : h.pos < 32 := by unfold keyWords at hm; omega
    rw [List.replicate_succ, hostRun_store _ (r := .keyW ⟨h.pos, h32⟩) (asmLdkey_word (by omega) h32) (by simp)
      (hload.inReset.trans hs) (hload.busy.trans hidle)]
    exact ih (m := h.pos + 1) rfl (by omega) (hload.storeKey h32)

/-- Settles O59: before the first word nothing is loaded, and `hostRun_asmLdkey` writes the rest. -/
theorem ldkeyLoadsTheKey : Obligations.LdkeyLoadsTheKey := by
  intro s h b hs hidle hpos hb
  rw [asmLdkey_length]
  exact hostRun_asmLdkey (by simpa [ldkeyOk] using hb) hs hidle (keyWords b) hpos (Nat.zero_add _)
    ⟨rfl, fun _ _ hj => absurd hj (Nat.not_lt_zero _)⟩

end Sys2Proof.Machine
end

section
/-! PROOFS. What a host access leaves alone (spec/20_memory.md R70, R81, R83; spec/40_execution.md R133): a read changes
nothing, and while a command is pending every access but an SRESET changes control and status alone. -/

namespace Sys2Proof.Machine
open Sys2Proof.Claims

/-- Settles O7: the step is the access (`step_issue_access`), and a read sets the response and the turn alone. -/
theorem readsHaveNoSideEffect : Obligations.ReadsHaveNoSideEffect :=
  fun s _ _ hs => step_issue_access _ s hs

/-- `t` is `s` but for CTRL, DONE, ERR and ERRCODE. -/
def OnlyControlChanged (s t : State) : Prop :=
  t = { s with
    doneIe := t.doneIe, errIe := t.errIe, keyAutoclr := t.keyAutoclr, done := t.done, err := t.err, errcode := t.errcode }

theorem errorEvent_onlyControlChanged (c : ErrorCode) (s : State) : OnlyControlChanged s (errorEvent c s) := by
  unfold errorEvent
  split <;> rfl

theorem writeStatus_onlyControlChanged (v : Word) (s : State) : OnlyControlChanged s (writeStatus v s) := by
  rw [writeStatus_eq]
  rfl

/-- R132, R133: the accesses that start a command or store an operand want an idle core. -/
theorem AccessMove.onlyControlChanged {a : Access} {u t : State} (h : AccessMove a u t) (hbusy : u.busy = true)
    (hsreset : a ≠ ⟨Reg.offset .cmd, 4, .write (encode .sreset)⟩) : OnlyControlChanged u t := by
  cases h with
  | nothing | ctrl => rfl
  | error c => exact errorEvent_onlyControlChanged c u
  | status v => exact writeStatus_onlyControlChanged v u
  | sreset ha => exact absurd ha hsreset
  | start _ _ hidle => simp [hbusy] at hidle
  | store _ _ _ hidle => simp [hbusy] at hidle

/-- Settles O51: the step is a move of the access (`accessed_move`), and a busy core has no move but an SRESET that changes
more than control and status (`AccessMove.onlyControlChanged`). -/
theorem pendingCommandFreezesTheData : Obligations.PendingCommandFreezesTheData := by
  intro s a hs hbusy hsreset
  refine ⟨_, step_issue_access a s hs, (accessed_move a s).onlyControlChanged hbusy ?_⟩
  rintro rfl
  exact hsreset ⟨rfl, rfl, rfl⟩

end Sys2Proof.Machine
end

section
/-! PROOFS. `wait` (spec/30_encoding.md R112): a poll is a read of STATUS and a branch back to it, taken while BUSY = 1. -/

namespace Sys2Proof.Machine
open Sys2Proof.Claims

theorem hostRun_host {p : List HostStmt} {h h' : HostCtx} {s t : State} (hturn : hostTurn p h s = .next (h', t))
    (rest : List Agent) : hostRun p (.host :: rest) h s = hostRun p rest h' t := by
  simp only [hostRun, hturn]

theorem hostRun_core {h : HostCtx} {s t : State} (hcore : coreStep s = .next t) (p : List HostStmt)
    (rest : List Agent) : hostRun p (.core :: rest) h s = hostRun p rest h t := by
  simp only [hostRun, coreTurn, hcore]

/-- A host turn at a read of a mapped register. -/
theorem hostTurn_rd {p : List HostStmt} {r : Reg} {h : HostCtx} {s : State} (hp : p[h.pos]? = some (.rd (Reg.offset r)))
    (hs : s.inReset = false) :
    hostTurn p h s =
      .next ({ h with pos := h.pos + 1, last := regRead s r }, { s with resp := .data (regRead s r), turn := .host }) := by
  simp only [hostTurn, hp, hostExec, takeEvent_access _ s hs, accessed, memRead_offset, hostNext, hostData]

theorem hostTurn_bnz {p : List HostStmt} {mask : Word} {label : Nat} {h : HostCtx} (s : State)
    (hp : p[h.pos]? = some (.bnz mask label)) :
    hostTurn p h s = .next ({ h with pos := if h.last &&& mask ≠ 0#32 then label else h.pos + 1 }, s) := by
  simp only [hostTurn, hp, hostExec]

/-- STATUS bit 0 is BUSY (R28). -/
theorem readStatus_and_one (s : State) : readStatus s &&& 0x1#32 ≠ 0#32 ↔ s.busy = true := by
  unfold readStatus
  generalize s.errcode = c, s.err = e, s.done = d, s.busy = b
  revert c e d b
  decide

/-- The low two bits of STATUS are DONE and BUSY (R28). -/
theorem readStatus_mod_four (s : State) : (readStatus s).toNat % 4 = s.done.toNat * 2 + s.busy.toNat := by
  have := s.done.toNat_lt
  have := s.busy.toNat_lt
  rw [readStatus_eq, BitVec.toNat_ofNat]
  omega

/-- A whole poll of `wait`: it ends at position 0 again while BUSY = 1, and past the program when BUSY = 0. -/
theorem hostRun_poll {h : HostCtx} {s : State} (hpos : h.pos = 0) (hs : s.inReset = false) (rest : List Agent) :
    hostRun (asmWait 0) (.host :: .host :: rest) h s =
      hostRun (asmWait 0) rest { h with pos := if s.busy = true then 0 else 2, last := readStatus s }
        { s with resp := .data (readStatus s), turn := .host } := by
  obtain ⟨pos, last, failed⟩ := h
  subst hpos
  rw [hostRun_host (hostTurn_rd (r := .status) rfl hs), hostRun_host (hostTurn_bnz _ rfl)]
  simp only [regRead, readStatus_and_one]

/-- While the command is pending every whole poll finds it pending, by induction on their number. -/
theorem hostRun_polls_inFlight (n : Nat) (rest : List Agent) : ∀ {h : HostCtx} {s : State}, h.pos = 0 → s.InFlight →
    ∃ h' t, hostRun (asmWait 0) (List.replicate (2 * n) .host ++ rest) h s = hostRun (asmWait 0) rest h' t ∧
      h'.pos = 0 ∧ t.InFlight := by
  induction n with
  | zero => exact fun {h s} hpos hflight => ⟨h, s, rfl, hpos, hflight⟩
  | succ n ih =>
    intro h s hpos hflight
    rw [Nat.mul_succ, List.replicate_succ, List.replicate_succ, List.cons_append, List.cons_append,
      hostRun_poll hpos hflight.released]
    exact ih (if_pos hflight.busy) ⟨hflight.busy, hflight.released, hflight.pends⟩

/-- R135: the completion step of a pending command leaves the core idle, done and out of reset. -/
theorem State.InFlight.completes {s : State} (h : s.InFlight) :
    ∃ t, Machine.coreStep s = .next t ∧ t.busy = false ∧ t.done = true ∧ t.inReset = false := by
  have henabled : coreEnabled s = true := by simp [coreEnabled, h.busy, h.released]
  exact ⟨_, coreStep_enabled s henabled h.pends, finishCommand_busy _, finishCommand_done _,
    (completed_inReset _ _).trans h.released⟩

/-- Settles O60: the polls before the completion leave the command pending (`hostRun_polls_inFlight`), and the poll after it
reads BUSY = 0 and DONE = 1 and ends (`hostRun_poll`). -/
theorem waitEndsAfterTheCompletion : Obligations.WaitEndsAfterTheCompletion := by
  intro s h n hinv hbusy hpos
  obtain ⟨h', u, hpolls, hpos', hflight⟩ := hostRun_polls_inFlight n [.core, .host, .host] hpos (hinv.inFlight hbusy)
  obtain ⟨t, hcore, hidle, hdone, hreleased⟩ := hflight.completes
  refine ⟨_, _, hpolls.trans ((hostRun_core hcore _ _).trans (hostRun_poll hpos' hreleased [])), ?_, hidle, hdone, ?_⟩
  · simp [hidle]
  · rw [readStatus_mod_four, hidle, hdone]; rfl

end Sys2Proof.Machine
end

section
/-! PROOFS. The command words (spec/30_encoding.md R101, R105 to R110): a word is its two fields, so a row has one word and
decoding finds it. -/

namespace Sys2Proof

theorem rsvField_toNat (w : Word) : (rsvField w).toNat = w.toNat / 16 := by
  have := w.isLt
  simp only [rsvField, BitVec.extractLsb'_toNat, Nat.shiftRight_eq_div_pow]
  omega

theorem opField_toNat (w : Word) : (opField w).toNat = w.toNat % 16 := by
  simp [opField]

theorem encode_toNat (i : Instr) : (encode i).toNat = (opcode i).toNat :=
  BitVec.toNat_setWidth_of_le (by decide)

theorem rsvField_eq_zero_iff (w : Word) : rsvField w = 0#28 ↔ w.toNat / 16 = 0 := by
  rw [← BitVec.toNat_inj, rsvField_toNat]
  rfl

/-- R110: the word of a row is the one with RSV = 0 and the row's opcode in OP. -/
theorem eq_encode_iff (w : Word) (i : Instr) : w = encode i ↔ rsvField w = 0#28 ∧ opField w = opcode i := by
  have := (opcode i).isLt
  rw [rsvField_eq_zero_iff, ← BitVec.toNat_inj, ← BitVec.toNat_inj, encode_toNat, opField_toNat]
  omega

theorem instrOfOp_eq_iff (op : Op) (i : Instr) : instrOfOp op = i ↔ op = opcode i := by
  constructor
  · rintro rfl
    exact (opcode_instrOfOp op).symm
  · rintro rfl
    exact instrOfOp_opcode i

theorem decode_of_rsv {w : Word} (h : rsvField w ≠ 0#28) : decode w = .error (.reservedBitsSet (rsvField w)) := if_neg h

theorem decode_of_rsv_zero {w : Word} (h : rsvField w = 0#28) : decode w = .ok (instrOfOp (opField w)) := if_pos h

theorem decode_eq_ok_iff (w : Word) (i : Instr) : decode w = .ok i ↔ w = encode i := by
  rw [eq_encode_iff]
  by_cases hrsv : rsvField w = 0#28
  · rw [decode_of_rsv_zero hrsv, Except.ok.injEq, instrOfOp_eq_iff, and_iff_right hrsv]
  · simp [decode_of_rsv hrsv, hrsv]

/-- Settles O2: a word decodes to a row when its RSV is 0 and its OP is the row's opcode, and the row's word is the only one
with these fields (`eq_encode_iff`). -/
theorem decodeAndEncodeAgreeBothWays : Obligations.DecodeAndEncodeAgreeBothWays := decode_eq_ok_iff

theorem decode_encode (i : Instr) : decode (encode i) = .ok i := (decode_eq_ok_iff _ i).2 rfl

/-- The rows of R105 that are not reserved. -/
def commandRows : List Instr := [.nop, .tstep, .encode, .hmac, .trunc, .hotp, .totp, .keyclr, .zeroize, .sreset]

theorem mem_commandRows_iff (i : Instr) : i ∈ commandRows ↔ i.isCommand = true := by
  cases i <;> decide

/-- The words that decode to a command are the words of the ten rows. -/
theorem mem_commandWords_iff (w : Word) :
    w ∈ commandRows.map encode ↔ ∃ i, decode w = .ok i ∧ i.isCommand = true := by
  simp only [List.mem_map, decode_eq_ok_iff, mem_commandRows_iff, eq_comm (a := w), and_comm]

/-- Settles O3: the split at RSV is `decode`'s own, and the ten words are those of `commandRows`
(`mem_commandWords_iff`). -/
theorem exactlyTenWordsAreCommands : Obligations.ExactlyTenWordsAreCommands := by
  refine ⟨fun w hrsv => ?_, fun w hrsv => ?_, commandRows.map encode, rfl, by decide, mem_commandWords_iff⟩
  · exact ⟨_, decode_of_rsv (mt (rsvField_eq_zero_iff w).1 hrsv)⟩
  · have hop : opField w = BitVec.ofNat 4 w.toNat := BitVec.eq_of_toNat_eq (opField_toNat w)
    rw [decode_of_rsv_zero ((rsvField_eq_zero_iff w).2 hrsv), hop]

/-- Settles O1: each word is its row's (`decode_encode`). -/
theorem opcodeMapWordsDecode : Obligations.OpcodeMapWordsDecode :=
  ⟨decode_encode .nop, decode_encode .tstep, decode_encode .encode, decode_encode .hmac, decode_encode .trunc,
    decode_encode .hotp, decode_encode .totp, decode_encode .keyclr, decode_encode .zeroize, decode_encode .reservedE,
    decode_encode .sreset⟩

end Sys2Proof
end

section
/-! PROOFS. The error event of the reserved opcodes (spec/30_encoding.md R106; spec/60_exceptions.md R241). -/

namespace Sys2Proof.Machine
open Sys2Proof.Claims

theorem errorEvent_eq_recorded (c : ErrorCode) (s : State) : errorEvent c s = recorded (errorCode c) s := rfl

theorem rejectIllegal_eq_recorded (s : State) :
    rejectIllegal s = recorded (if s.busy = true then 0x3#4 else 0x1#4) s := by
  rw [rejectIllegal, errorEvent_eq_recorded, apply_ite errorCode]
  rfl

theorem presented_of_reserved {i : Instr}
    (h : i ∈ [.reserved9, .reservedA, .reservedB, .reservedC, .reservedD, .reservedE]) (s : State) :
    presented i s = rejectIllegal s := by
  cases i
  case reserved9 | reservedA | reservedB | reservedC | reservedD | reservedE => rfl
  all_goals simp at h

/-- Settles O21: the CMD write of a reserved row is an illegal word's (`presented_of_reserved`). -/
theorem reservedOpcodesRaiseIllegalCmd : Obligations.ReservedOpcodesRaiseIllegalCmd := by
  intro s i hi hturn
  rw [exec_host i s hturn, presented_of_reserved hi, rejectIllegal_eq_recorded]

end Sys2Proof.Machine
end

section
/-! PROOFS. What a completion leaves every offset of the window reading as (spec/30_encoding.md R103; spec/40_execution.md
R135): a register whose value it changes stands in its command's row of the table. -/

namespace Sys2Proof.Machine
open Sys2Proof.Claims

/-- A register pair is equal as a number when both its words are (R46). -/
theorem pair_eq_iff (hi lo hi' lo' : Word) :
    hi.toNat * 2 ^ 32 + lo.toNat = hi'.toNat * 2 ^ 32 + lo'.toNat ↔ hi = hi' ∧ lo = lo' := by
  have := lo.isLt
  have := lo'.isLt
  rw [← BitVec.toNat_inj, ← BitVec.toNat_inj]
  omega

/-! ### No completion writes CTRL (R25, R135) -/

theorem readCtrl_commandEffect (i : Instr) (s : State) : readCtrl (commandEffect i s) = readCtrl s := by
  cases i <;> simp [readCtrl, commandEffect, hotpEffect, totpEffect]

theorem readCtrl_autoClear (op : Op) (s : State) : readCtrl (autoClear op s) = readCtrl s := by
  unfold autoClear
  split <;> rfl

theorem readCtrl_completed (i : Instr) (s : State) : readCtrl (completed i s) = readCtrl s :=
  (readCtrl_autoClear (opcode i) (commandEffect i s)).trans (readCtrl_commandEffect i s)

/-! ### A command leaves a register off its row alone (R103) -/

/-- The rows of all the commands of `ops` list the register `r`, whatever PEND_ACL is. -/
abbrev ListedBy (ops : List Op) (r : Reg) : Prop :=
  ∀ acl, ∀ op ∈ ops, (Reg.offset r).toNat ∈ writtenOffsets acl (instrOfOp op)

section
variable {i : Instr} {s : State} {r : Reg} (hr : (Reg.offset r).toNat ∉ writtenOffsets s.pendAcl i)
include hr

/-- What only the completions of `ops` change is kept by a command whose row does not list `r`, when the rows of `ops` do. -/
theorem completed_keeps {α : Type} {reg : State → α} {ops : List Op}
    (hchanges : reg (completed i s) ≠ reg s → opcode i ∈ ops) (hrows : ListedBy ops r) :
    reg (completed i s) = reg s :=
  by_contra fun hne => hr (by simpa using hrows s.pendAcl _ (hchanges hne))

theorem completed_keeps_time (hrows : ListedBy [0x8#4] r) :
    (completed i s).timeHi = s.timeHi ∧ (completed i s).timeLo = s.timeLo :=
  (pair_eq_iff _ _ _ _).1 (completed_keeps hr completed_time_changes hrows)

theorem completed_keeps_ctr (hrows : ListedBy [0x1#4, 0x6#4, 0x8#4] r) :
    (completed i s).ctrHi = s.ctrHi ∧ (completed i s).ctrLo = s.ctrLo :=
  (pair_eq_iff _ _ _ _).1 (completed_keeps hr completed_ctr_changes hrows)

theorem completed_keeps_codes (hrows : ListedBy [0x4#4, 0x5#4, 0x6#4, 0x8#4] r) : CodesAgree (completed i s) s :=
  (codesAgree_iff _ _).2 (completed_keeps hr completed_codes_changes hrows)

end

/-- The row of a command that clears the key lists KEYLEN: always for KEYCLR and ZEROIZE, and with PEND_ACL = 1 for the keyed
commands (R136). -/
theorem completed_keeps_keylen {i : Instr} {s : State} (hr : (Reg.offset .keylen).toNat ∉ writtenOffsets s.pendAcl i) :
    (completed i s).keylen = s.keylen := by
  refine (completed_keeps_key ?_).2
  rintro (hop | ⟨hacl, hop⟩)
  · have hrows : ListedBy [0x7#4, 0x8#4] .keylen := by decide
    exact hr (by simpa using hrows s.pendAcl _ hop)
  · have hrows : ∀ op ∈ [0x3#4, 0x5#4, 0x6#4], (Reg.offset .keylen).toNat ∈ writtenOffsets true (instrOfOp op) := by
      decide
    exact hr (by simpa [hacl] using hrows _ hop)

/-- R103, by the register. -/
theorem regRead_completed {r : Reg} {i : Instr} {s : State}
    (hr : (Reg.offset r).toNat ∉ writtenOffsets s.pendAcl i) : regRead (completed i s) r = regRead s r := by
  cases r
  case id | cmd | keyW => rfl
  case ctrl => exact readCtrl_completed i s
  case status => exact absurd List.mem_cons_self hr
  case keylen => rw [regRead, regRead, completed_keeps_keylen hr]
  case timeHi => exact (completed_keeps_time hr (by decide)).1
  case timeLo => exact (completed_keeps_time hr (by decide)).2
  case ctrHi => exact (completed_keeps_ctr hr (by decide)).1
  case ctrLo => exact (completed_keeps_ctr hr (by decide)).2
  case cblk j =>
    have hrows : ∀ k, ListedBy [0x2#4, 0x5#4, 0x6#4, 0x8#4] (.cblk k) := by decide
    rw [regRead, regRead, readCblk, readCblk, completed_keeps hr completed_cblk_changes (hrows j)]
  case mac j =>
    have hrows : ∀ k, ListedBy [0x3#4, 0x5#4, 0x6#4, 0x8#4] (.mac k) := by decide
    rw [regRead, regRead, readMac, readMac, completed_keeps hr completed_mac_changes (hrows j)]
  case truncOff =>
    obtain ⟨htrunc, -⟩ := completed_keeps_codes hr (by decide)
    rw [regRead, regRead, htrunc]
  case dbc =>
    obtain ⟨-, hdbc, -⟩ := completed_keeps_codes hr (by decide)
    rw [regRead, regRead, hdbc]
  case code =>
    obtain ⟨-, -, hcode, -⟩ := completed_keeps_codes hr (by decide)
    rw [regRead, regRead, hcode]
  case digits j =>
    have hrows : ∀ k, ListedBy [0x4#4, 0x5#4, 0x6#4, 0x8#4] (.digits k) := by decide
    obtain ⟨-, -, -, hdig⟩ := completed_keeps_codes hr (hrows j)
    simp only [regRead, readDigits, hdig]

theorem memRead_completed {i : Instr} {s : State} {off : Offset} (hoff : off.toNat ∉ writtenOffsets s.pendAcl i)
    (size : Nat) : memRead (completed i s) off size = memRead s off size := by
  unfold memRead
  split
  case h_1 r hreg =>
    obtain ⟨rfl, -⟩ := accessReg_sound hreg
    rw [regRead_completed hoff]
  case h_2 => rfl

/-- Settles O31: the pending command completes, and a register it leaves off its row reads as before
(`memRead_completed`). -/
theorem completionKeepsEveryOtherOffset : Obligations.CompletionKeepsEveryOtherOffset :=
  fun _ _ hi hs => ⟨_, exec_of_pending (becomesPending_of_pends hi) hs, fun _ hoff => memRead_completed hoff⟩

end Sys2Proof.Machine
end

section
/-! PROOFS. `ldctr` and `ldtime` (spec/30_encoding.md R112): two idle stores, the high word first. -/

namespace Sys2Proof.Machine
open Sys2Proof.Claims

/-- The two halves a pseudo-instruction writes make up its operand (R46). -/
theorem halves_toNat (c : Quad) :
    (c.extractLsb' 32 32 : Word).toNat * 2 ^ 32 + (c.extractLsb' 0 32 : Word).toNat = c.toNat :=
  (ctr_toNat (setCtr c State.reset)).symm.trans (congrArg BitVec.toNat (ctr_setCtr c State.reset))

/-- Settles O58: each half is an idle store (`hostRun_store`), and the two make up the operand (`halves_toNat`). -/
theorem ldctrAndLdtimeLoadThePair : Obligations.LdctrAndLdtimeLoadThePair := by
  rintro s ⟨pos, last, failed⟩ c hs hidle rfl
  constructor
  · exact ⟨_, _, (hostRun_store [.host] (r := .ctrHi) rfl (by decide) hs hidle).trans
      (hostRun_store [] (r := .ctrLo) rfl (by decide) hs hidle), halves_toNat c, rfl⟩
  · exact ⟨_, _, (hostRun_store [.host] (r := .timeHi) rfl (by decide) hs hidle).trans
      (hostRun_store [] (r := .timeLo) rfl (by decide) hs hidle), halves_toNat c, rfl⟩

end Sys2Proof.Machine
end

section
/-! PROOFS. The core's turn and the reset input (spec/40_execution.md R135, R137; spec/70_reset_and_hazards.md R271, R272):
the completion step runs the pending command or changes nothing, and only an access during reset stops the machine. -/

namespace Sys2Proof.Machine
open Sys2Proof.Claims

/-- Settles O22: a completion is enabled only while BUSY = 1, for the command in PEND_OP (`exec_core`). -/
theorem onlyThePendingCommandCompletes : Obligations.OnlyThePendingCommandCompletes := by
  intro s i hturn hnot
  rw [exec_core i s hturn, if_neg]
  rintro ⟨-, hbusy, hop⟩
  obtain hidle | hother := hnot
  · simp [hbusy] at hidle
  · exact hother hop

theorem step_issue_complete (s : State) : step (issue .complete s) = coreStep s :=
  step_cons (issue .complete s) .complete s.events rfl

/-- R135: with BUSY = 1 and `rst_n` released the core runs the command in PEND_OP. -/
theorem coreStep_of_pendOp {s : State} {i : Instr} (hreleased : s.inReset = false) (hbusy : s.busy = true)
    (hop : s.pendOp = opcode i) : coreStep s = exec i { s with turn := .core } := by
  simp [coreStep, hreleased, hbusy, hop]

theorem coreStep_of_disabled {s : State} (h : s.busy = false ∨ s.inReset = true) : coreStep s = .next s := by
  apply coreStep_idle
  obtain hidle | hreset := h
  · simp [coreEnabled, hidle]
  · simp [coreEnabled, hreset]

/-- Settles O15: the completion event and the empty list of events both take `coreStep`, which runs the pending command
(`coreStep_of_pendOp`) or is not enabled (`coreStep_of_disabled`). -/
theorem completionStepRunsThePendingCommand : Obligations.CompletionStepRunsThePendingCommand := by
  refine fun s i => ⟨fun hreleased hbusy hop => ?_, fun hdisabled => ?_⟩
  · have hcore := coreStep_of_pendOp hreleased hbusy hop
    exact ⟨(step_issue_complete s).trans hcore, fun hevents => (step_nil s hevents).trans hcore⟩
  · have hcore := coreStep_of_disabled hdisabled
    exact ⟨(step_issue_complete s).trans hcore, fun hevents => (step_nil s hevents).trans hcore⟩

theorem takeEvent_access_inReset (a : Access) {s : State} (h : s.inReset = true) :
    takeEvent (.access a) s = .refused .accessDuringReset :=
  if_pos h

/-- Settles O46: the held reset state has `inReset = true`, which stops completions (`coreStep_of_disabled`) and accesses
(`takeEvent_access_inReset`), and the release changes that field alone. -/
theorem resetIsHeldUntilReleased : Obligations.ResetIsHeldUntilReleased := by
  refine ⟨fun s => ⟨assertReset s, step_cons _ .assertReset s.events rfl, rfl, rfl⟩, fun s hheld => ?_⟩
  have hreset : s.inReset = true := congrArg State.inReset hheld
  refine ⟨(step_issue_complete s).trans (coreStep_of_disabled (.inr hreset)), fun a => ?_, ?_⟩
  · exact (step_cons _ (.access a) s.events rfl).trans (takeEvent_access_inReset a hreset)
  · exact (step_cons _ .releaseReset s.events rfl).trans (congrArg Host.Outcome.next (congrArg releaseReset hheld))

/-- An idle core waits, and a command in flight completes (R135, R272). -/
theorem coreStep_next {s : State} (h : s.busy = true → s.InFlight) : ∃ t, coreStep s = .next t := by
  cases hbusy : s.busy with
  | true => exact (h hbusy).coreStep.imp fun _ => And.left
  | false => exact ⟨s, coreStep_of_disabled (.inl hbusy)⟩

/-- R137: an event stops the machine only where it is an access during reset. -/
theorem takeEvent_next {e : Event} {s : State} (h : s.busy = true → s.InFlight)
    (hduty : s.inReset = true → ∀ a, e ≠ .access a) : ∃ t, takeEvent e s = .next t := by
  cases e with
  | access a => exact ⟨_, takeEvent_access a s (Bool.eq_false_iff.2 fun hreset => hduty hreset a rfl)⟩
  | complete => exact coreStep_next h
  | assertReset | releaseReset => exact ⟨_, rfl⟩

/-- Settles O50: the invariant has a busy core's command in flight (`State.Inv.inFlight`), so neither the core's step
(`coreStep_next`) nor an event (`takeEvent_next`) stops. -/
theorem noReachableStepFaults : Obligations.NoReachableStepFaults := by
  refine fun s hinv => ⟨fun hduty => ?_, ?_⟩
  · cases hevents : s.events with
    | nil => exact (coreStep_next hinv.inFlight).imp fun _ => (step_nil s hevents).trans
    | cons e rest =>
      refine (takeEvent_next (s := { s with events := rest }) (fun hbusy => (hinv.inFlight hbusy).setEvents rest) ?_).imp
        fun _ => (step_cons s e rest hevents).trans
      rintro hreset a rfl
      exact hduty ⟨hreset, a, rest, hevents⟩
  · rintro hreset ⟨a, rest, hevents⟩
    exact (step_cons s _ rest hevents).trans (takeEvent_access_inReset a hreset)

end Sys2Proof.Machine
end

section
/-! PROOFS. The CMD write and the frozen operand writes (spec/40_execution.md R131, R132, R134, R138): the acceptance procedure
in its order. -/

namespace Sys2Proof.Machine
open Sys2Proof.Claims

/-- Settles O20: SRESET's CMD write is `softReset`, busy or not. -/
theorem sresetReachesTheResetState : Obligations.SresetReachesTheResetState := exec_host .sreset

/-- R131 from the busy check on, with each rejection as a recorded error code. -/
theorem acceptCommand_eq (op : Op) (s : State) :
    acceptCommand op s =
      if s.busy = true then recorded 0x3#4 s
      else if isKeyed op = true ∧ 128 < s.keylen.toNat then recorded 0x2#4 s
      else startCommand op s := by
  simp only [acceptCommand, keylenTooLong, Config.keyMax, Bool.and_eq_true, decide_eq_true_iff]
  rfl

theorem exec_host_of_pends {i : Instr} {s : State} (hi : Pends i) (h : s.turn = .host) :
    exec i s = .next (acceptCommand (opcode i) s) := by
  rw [exec_host i s h]
  cases i
  case tstep | encode | hmac | trunc | hotp | totp | keyclr | zeroize => rfl
  all_goals simp [Pends] at hi

theorem isKeyed_opcode_iff (i : Instr) : isKeyed (opcode i) = true ↔ Keyed i := by
  cases i <;> simp [Keyed, isKeyed, opcode]

/-- Settles O17: neither rejection of `acceptCommand_eq` applies, so the command starts. -/
theorem acceptanceStartsTheCommand : Obligations.AcceptanceStartsTheCommand := by
  intro s i hi hturn hidle hlen
  have hlegal : ¬ (isKeyed (opcode i) = true ∧ 128 < s.keylen.toNat) := fun ⟨hkeyed, hlong⟩ =>
    hlong.not_ge (hlen ((isKeyed_opcode_iff i).1 hkeyed))
  rw [exec_host_of_pends hi hturn, acceptCommand_eq, if_neg (by simp [hidle]), if_neg hlegal]
  rfl

/-- Settles O18: the length check of `acceptCommand_eq` is for the keyed commands alone. -/
theorem longKeyFailsKeyedCommandsOnly : Obligations.LongKeyFailsKeyedCommandsOnly := by
  intro s i hi hturn hidle hlong
  rw [exec_host_of_pends hi hturn, acceptCommand_eq, if_neg (by simp [hidle]), ← isKeyed_opcode_iff]
  refine ⟨fun hkeyed => by rw [if_pos ⟨hkeyed, hlong⟩], fun hkeyless => ⟨_, rfl, ?_⟩⟩
  rw [if_neg fun h => hkeyless h.1]
  exact ⟨rfl, rfl, rfl⟩

/-- The acceptance procedure of R131 on the fields OP and RSV of a command word, its checks in the rule's order. -/
def acceptanceOutcome (op rsv : Nat) (s : State) : State :=
  if op = 0xF ∧ rsv = 0 then resetCore s
  else if s.busy = true then recorded 0x3#4 s
  else if rsv ≠ 0 ∨ (0x9 ≤ op ∧ op ≤ 0xE) then recorded 0x1#4 s
  else if op = 0x0 then s
  else if (op = 0x3 ∨ op = 0x5 ∨ op = 0x6) ∧ 128 < s.keylen.toNat then recorded 0x2#4 s
  else startCommand (BitVec.ofNat 4 op) s

/-- R107, R131: a word with RSV ≠ 0 is illegal whatever its OP. -/
theorem acceptanceOutcome_of_rsv (op : Nat) {rsv : Nat} (h : rsv ≠ 0) (s : State) :
    acceptanceOutcome op rsv s = rejectIllegal s := by
  rw [rejectIllegal_eq_recorded]
  simp only [acceptanceOutcome, h, and_false, if_false, ne_eq, not_false_eq_true, true_or, if_true]
  split <;> rfl

/-- R131, by the row: the procedure's outcome is what the row's CMD write makes of the state. -/
theorem acceptanceOutcome_opcode (i : Instr) (s : State) :
    acceptanceOutcome (opcode i).toNat 0 s = presented i s := by
  cases i
  case sreset => rfl
  case nop => simp [acceptanceOutcome, opcode, presented, nopEffect, errorEvent_eq_recorded, errorCode]
  case tstep | encode | hmac | trunc | hotp | totp | keyclr | zeroize =>
    simp [acceptanceOutcome, presented, acceptCommand_eq, opcode, isKeyed]
  all_goals
    rw [presented, rejectIllegal_eq_recorded]
    cases hbusy : s.busy <;> simp [acceptanceOutcome, opcode, hbusy]

theorem cmdWritten_eq_acceptanceOutcome (v : Word) (s : State) :
    cmdWritten v s = acceptanceOutcome (v.toNat % 16) (v.toNat / 16) s := by
  by_cases hrsv : v.toNat / 16 = 0
  · rw [cmdWritten, decode_of_rsv_zero ((rsvField_eq_zero_iff v).2 hrsv), hrsv, ← opField_toNat,
      ← opcode_instrOfOp (opField v), acceptanceOutcome_opcode, instrOfOp_opcode]
  · rw [cmdWritten, decode_of_rsv (mt (rsvField_eq_zero_iff v).1 hrsv), acceptanceOutcome_of_rsv _ hrsv]

/-- Settles O16: the write reaches CMD, whose outcome is `acceptanceOutcome` of the word's fields. -/
theorem cmdWriteFollowsTheAcceptanceOrder : Obligations.CmdWriteFollowsTheAcceptanceOrder := by
  intro s v hs
  refine (step_issue_wr .cmd v s hs).trans ?_
  rw [written, cmdWritten_eq_acceptanceOutcome]
  rfl

/-- The offsets of R132 are those of the operand registers, whose writes are frozen while busy. -/
theorem written_of_frozenOffset {r : Reg} (h : FrozenOffset (Reg.offset r)) (v : Word) (s : State) :
    written r v s = frozenWrite (operandStore r v) s := by
  cases r
  case keylen | timeHi | timeLo | ctrHi | ctrLo | keyW => rfl
  case cblk | mac | digits => simp [FrozenOffset, Reg.offset] at h; omega
  all_goals simp [FrozenOffset, Reg.offset] at h

theorem exists_reg_of_frozenOffset {off : Offset} (h : FrozenOffset off) : ∃ r, off = Reg.offset r := by
  have hmapped : (regAt off).isSome = true := by
    simp only [FrozenOffset, List.mem_cons, List.not_mem_nil, or_false] at h
    exact (regAt_isSome off).2 (by omega)
  exact (Option.isSome_iff_exists.1 hmapped).imp fun _ => regAt_sound

theorem operandStore_error (r : Reg) (v : Word) (s : State) :
    (operandStore r v s).err = s.err ∧ (operandStore r v s).errcode = s.errcode := by
  cases r <;> exact ⟨rfl, rfl⟩

/-- Settles O13: a write at such an offset is a frozen operand write (`written_of_frozenOffset`): an error event while busy, a
store while idle. -/
theorem busyOperandWritesAreFrozen : Obligations.BusyOperandWritesAreFrozen := by
  intro s off v hs hoff
  obtain ⟨r, rfl⟩ := exists_reg_of_frozenOffset hoff
  rw [step_issue_wr r v s hs, written_of_frozenOffset hoff]
  constructor
  · intro hbusy
    rw [frozenWrite, if_pos hbusy]
    rfl
  · intro hidle
    rw [frozenWrite, if_neg (by simp [hidle])]
    exact ⟨_, rfl, operandStore_resp .., operandStore_error r v { s with resp := .okay, turn := .host }⟩

end Sys2Proof.Machine
end

section
/-! PROOFS. What each completion writes (spec/40_execution.md R135, R136): the results of the effect by the rules' formulas
(R151, R181, R200 to R204, R220 to R225), and the frame around them. -/

namespace Sys2Proof.Machine
open Sys2Proof.Claims

/-! ### AutoClear and the frame of a completion -/

/-- R135, R136: beside its effect a completion changes KEY, KEYLEN and the two status bits alone. -/
theorem completed_frame (i : Instr) (s : State) :
    completed i s = { commandEffect i s with
      key := (completed i s).key, keylen := (completed i s).keylen, busy := false, done := true } := by
  unfold completed autoClear
  split <;> rfl

/-- R136: a keyed command clears the key when PEND_ACL = 1 and keeps it when PEND_ACL = 0. -/
theorem completed_autoCleared {i : Instr} (hi : Keyed i) (s : State) : AutoCleared s (completed i s) := by
  have hkept : (commandEffect i s).key = s.key ∧ (commandEffect i s).keylen = s.keylen := by
    cases i
    case hmac | hotp | totp => exact ⟨rfl, rfl⟩
    all_goals simp [Keyed] at hi
  rw [AutoCleared, completed_key, completed_keylen, (isKeyed_opcode_iff i).2 hi, Bool.and_true]
  split
  · exact ⟨Vector.toList_replicate, rfl⟩
  · exact hkept

/-! ### The Counter Encoder and the Formatter as numbers -/

/-- R150, R151. -/
theorem tstepEffect_ctrNat (s : State) : ctrNat (tstepEffect s) = timeNat s / 30 := by
  rw [ctrNat, ← ctr_toNat, tstepEffect, ctr_setCtr, tstep_toNat, time_toNat, timeNat]

/-- R200. -/
theorem truncOffset_toNat (mac : Vector Byte 20) : (truncOffset mac).toNat = byteAt mac.toList 19 % 16 := by
  rw [byteAt_vector mac 19 (by decide)]
  simp [truncOffset]

/-- R201: the mask drops the top bit. -/
theorem extractDbc_toNat (mac : Vector Byte 20) (o : BitVec 4) :
    (extractDbc mac o).toNat = beNat mac.toList o.toNat % 2 ^ 31 := by
  have := o.isLt
  rw [beNat, byteAt_vector mac _ (by omega), byteAt_vector mac _ (by omega), byteAt_vector mac _ (by omega),
    byteAt_vector mac _ (by omega), ← be32_toNat]
  simp [extractDbc]

/-- R204: the four registers hold the truncation of MAC. -/
theorem truncEffect_holdsTruncation (s : State) : HoldsTruncation s.mac.toList (truncEffect s) := by
  refine ⟨truncOffset_toNat s.mac, ?_, reduceCode_toNat _, (dig_decimal6_iff _ _).1 rfl⟩
  rw [truncEffect_dbc, extractDbc_toNat, truncOffset_toNat]

/-- CBLK is the counter `c`, MAC the tag of `key` over CBLK, and the code registers the truncation of MAC: what the composite
commands leave (R220, R221). -/
def HoldsOtp (key : List Byte) (c : Nat) (t : State) : Prop :=
  HoldsCounterBlock c t ∧ t.mac = hmacSha1 key t.cblk.toList ∧ HoldsTruncation t.mac.toList t

theorem hotpEffect_holdsOtp (s : State) : HoldsOtp (keyOf s) (ctrNat s) (hotpEffect s) :=
  ⟨encodeEffect_holdsCounterBlock s, rfl, truncEffect_holdsTruncation (hmacEffect (encodeEffect s))⟩

/-- R221: TOTP is TSTEP and then HOTP. -/
theorem totpEffect_holdsOtp (s : State) : HoldsOtp (keyOf s) (timeNat s / 30) (totpEffect s) := by
  rw [← tstepEffect_ctrNat]
  exact hotpEffect_holdsOtp (tstepEffect s)

/-- AutoClear and the status bits leave the results alone. -/
theorem HoldsOtp.completed {key : List Byte} {c : Nat} {i : Instr} {s : State} (h : HoldsOtp key c (commandEffect i s)) :
    HoldsOtp key c (completed i s) := by
  rw [completed_frame]
  exact h

/-! ### The commands -/

/-- Settles O23: TSTEP clears no key, and its effect is the division (`tstepEffect_ctrNat`). -/
theorem tstepDividesTheTimeByThirty : Obligations.TstepDividesTheTimeByThirty := by
  intro s hs
  rw [exec_of_pending rfl hs, completed_of_not_keyed rfl]
  exact ⟨_, rfl, tstepEffect_ctrNat s, rfl⟩

/-- Settles O25: the tag is `hmacEffect`'s, the key goes by `completed_autoCleared`, the rest by `completed_frame`. -/
theorem hmacWritesTheTag : Obligations.HmacWritesTheTag := by
  refine fun s hs => ⟨_, exec_of_pending rfl hs, completed_mac .hmac s, completed_autoCleared (by simp [Keyed]) s, ?_⟩
  rw [completed_frame]
  rfl

/-- Settles O26: TRUNC clears no key, and its effect is the truncation of MAC (`truncEffect_holdsTruncation`). -/
theorem truncWritesOffsetValueCodeAndDigits : Obligations.TruncWritesOffsetValueCodeAndDigits := by
  intro s hs
  rw [exec_of_pending rfl hs, completed_of_not_keyed rfl]
  exact ⟨_, rfl, truncEffect_holdsTruncation s, rfl⟩

/-- Settles O27: the three stages are `hotpEffect_holdsOtp`, kept to the end of the completion (`HoldsOtp.completed`). -/
theorem hotpRunsEncodeHmacTrunc : Obligations.HotpRunsEncodeHmacTrunc := by
  intro s hs
  obtain ⟨hcblk, hmac, hcodes⟩ := HoldsOtp.completed (i := .hotp) (hotpEffect_holdsOtp s)
  refine ⟨_, exec_of_pending rfl hs, hcblk, hmac, hcodes, completed_autoCleared (by simp [Keyed]) s, ?_⟩
  rw [completed_frame]
  rfl

/-- Settles O28: the stages after TSTEP are HOTP's (`totpEffect_holdsOtp`), kept to the end of the completion
(`HoldsOtp.completed`). -/
theorem totpRunsTstepEncodeHmacTrunc : Obligations.TotpRunsTstepEncodeHmacTrunc := by
  intro s hs
  obtain ⟨hcblk, hmac, hcodes⟩ := HoldsOtp.completed (i := .totp) (totpEffect_holdsOtp s)
  refine ⟨_, exec_of_pending rfl hs, ?_, hcblk, hmac, hcodes, completed_autoCleared (by simp [Keyed]) s, ?_⟩
  · rw [ctrNat, completed_ctrHi, completed_ctrLo]
    exact tstepEffect_ctrNat s
  · rw [completed_frame]
    rfl

/-- Settles O29: KEYCLR is no keyed command, so PEND_ACL plays no part and its effect is `clearKey`. -/
theorem keyclrClearsKeyAndLength : Obligations.KeyclrClearsKeyAndLength := by
  intro s hs
  rw [exec_of_pending rfl hs, completed_of_not_keyed rfl]
  rfl

/-- Settles O30: field by field ZEROIZE's effect is the reset state, but for the control and error fields it keeps. -/
theorem zeroizeClearsEveryDataRegister : Obligations.ZeroizeClearsEveryDataRegister := by
  intro s hs
  rw [exec_of_pending rfl hs, completed_of_not_keyed rfl]
  rfl

end Sys2Proof.Machine
end

section
/-! PROOFS. The Counter Encoder's two functions (spec/41_counter_encoder.md R150, R152): the time step as a quotient, and the
counter block as the base-256 digits of the counter. -/

namespace Sys2Proof.Machine
open Sys2Proof.Claims

/-! ### `tstep` (R150) -/

/-- Two times have one time step exactly when they lie in one 30-second window; the window is the one numbered by the step. -/
theorem tstep_eq_iff (t u : Quad) :
    tstep t = tstep u ↔
      ∃ k, 30 * k ≤ t.toNat ∧ t.toNat ≤ 30 * k + 29 ∧ 30 * k ≤ u.toNat ∧ u.toNat ≤ 30 * k + 29 := by
  rw [← BitVec.toNat_inj, tstep_toNat, tstep_toNat]
  constructor
  · intro h
    exact ⟨t.toNat / 30, by omega⟩
  · rintro ⟨k, htl, htu, hul, huu⟩
    omega

/-- Settles O33: each clause is read off the quotient (`tstep_toNat`); the windows are `tstep_eq_iff`. -/
theorem timeStepIsFloorDivision : Obligations.TimeStepIsFloorDivision := by
  intro t u
  refine ⟨tstep_toNat t, ?_, fun h => ?_, tstep_eq_iff t u⟩
  · have := t.isLt
    rw [tstep_toNat]
    omega
  · rw [tstep_toNat, tstep_toNat]
    exact Nat.div_le_div_right h

/-! ### `bytes64` and `be64` (R7, R152) -/

/-- The two words of the joined quad are the window words of the counter block, the halves of the counter
(`windowWord_bytes64`). -/
theorem be64_bytes64 (c : Quad) : be64 (bytes64 c) = c := by
  have hc : c.extractLsb' 32 32 ++ c.extractLsb' 0 32 = c :=
    (BitVec.extractLsb'_append_extractLsb'_eq_extractLsb' rfl).trans BitVec.extractLsb'_eq_self
  obtain ⟨hhi, hlo⟩ := windowWord_bytes64 (c.extractLsb' 32 32) (c.extractLsb' 0 32)
  rw [hc] at hhi hlo
  calc be64 (bytes64 c)
    _ = windowWord (bytes64 c) 0 (by decide) ++ windowWord (bytes64 c) 1 (by decide) := rfl
    _ = c := by rw [hhi, hlo, hc]

/-- The bytes of a quad are the bytes of its two words (R7, R46). -/
theorem quadByte_append (hi lo : Word) (i : Nat) (h : i < 8) :
    quadByte (hi ++ lo) i = if i < 4 then wordByte hi i else wordByte lo (i - 4) := by
  unfold quadByte wordByte
  split
  · rw [BitVec.extractLsb'_append_eq_of_le (by omega), show 56 - 8 * i - 32 = 24 - 8 * i by omega]
  · rw [BitVec.extractLsb'_append_eq_of_add_le (by omega), show 56 - 8 * i = 24 - 8 * (i - 4) by omega]

theorem be64_eq_be32At_append (b : Vector Byte 8) : be64 b = be32At b.toList 0 ++ be32At b.toList 1 := by
  simp [be64, be32At]

/-- Byte `i` of the joined quad is byte `i % 4` of its word `i / 4`, which was joined from the bytes (`wordByte_be32At`). -/
theorem quadByte_be64 (b : Vector Byte 8) (i : Nat) (hi : i < 8) : quadByte (be64 b) i = b[i] := by
  rw [be64_eq_be32At_append, quadByte_append _ _ i hi]
  split
  · rw [wordByte_be32At _ _ _ (by omega)]
    simp [hi]
  · rw [wordByte_be32At _ _ _ (by omega), show 4 * 1 + (i - 4) = i by omega]
    simp [hi]

theorem bytes64_be64 (b : Vector Byte 8) : bytes64 (be64 b) = b := by
  ext1 i hi
  rw [bytes64_getElem _ i hi, quadByte_be64 b i hi]

theorem byteAt_bytes64 (c : Quad) (i : Nat) (hi : i < 8) :
    byteAt (bytes64 c).toList i = c.toNat / 2 ^ (56 - 8 * i) % 256 := by
  rw [byteAt_vector _ i hi, bytes64_getElem, quadByte_toNat]

/-- Settles O34: the digits in base 256 (`byteAt_bytes64`), and the two round trips. -/
theorem counterEncoderIsInvertible : Obligations.CounterEncoderIsInvertible :=
  ⟨byteAt_bytes64, be64_bytes64, bytes64_be64⟩

end Sys2Proof.Machine
end

section
/-! PROOFS. SHA-1 and HMAC-SHA1 (spec/42_hmac_sha1.md R171 to R184): the padding, the schedule, the rounds, the blocks, and
the key block that decides an HMAC tag. -/

namespace Sys2Proof.Machine
open Sys2Proof.Claims

/-! ### Padding (R171) -/

/-- A byte of a 64-bit length field is a byte of the length itself: what the 64 bits cut off stands above it. -/
theorem quadByte_ofNat (n i : Nat) (hi : i < 8) :
    quadByte (BitVec.ofNat 64 n) i = BitVec.ofNat 8 (n / 2 ^ (56 - 8 * i)) := by
  apply BitVec.eq_of_toNat_eq
  have hsplit : 2 ^ 64 = 2 ^ (56 - 8 * i) * 2 ^ (8 + 8 * i) := by
    rw [← pow_add]
    congr 1
    omega
  rw [quadByte_toNat, BitVec.toNat_ofNat, BitVec.toNat_ofNat, hsplit, Nat.mod_mul_right_div_self]
  exact Nat.mod_mod_of_dvd _ (pow_dvd_pow 2 (Nat.le_add_right 8 _))

theorem bytes64_ofNat_toList (n : Nat) :
    (bytes64 (BitVec.ofNat 64 n)).toList = (List.range 8).map fun i => BitVec.ofNat 8 (n / 2 ^ (56 - 8 * i)) := by
  refine List.ext_getElem (by simp) fun i hi _ => ?_
  have hi8 : i < 8 := by simpa using hi
  rw [Vector.getElem_toList, bytes64_getElem _ i hi8, quadByte_ofNat n i hi8, List.getElem_map, List.getElem_range]

theorem padZeros_reaches (len : Nat) : (len + 1 + padZeros len) % 64 = 56 := by
  unfold padZeros
  omega

theorem padZeros_smallest (len j : Nat) (hj : j < padZeros len) : (len + 1 + j) % 64 ≠ 56 := by
  unfold padZeros at hj
  omega

theorem pad_length_mod (m : List Byte) : (pad m).length % 64 = 0 := by
  have := padZeros_reaches m.length
  rw [pad_length]
  omega

/-- Settles O35: `k` is `padZeros`, and the length field is `bytes64_ofNat_toList`. -/
theorem paddingReachesABlockBoundary : Obligations.PaddingReachesABlockBoundary := by
  refine fun m => ⟨padZeros m.length, ?_, padZeros_reaches _, padZeros_smallest _, pad_length_mod m⟩
  rw [pad, bytes64_ofNat_toList]

/-! ### The message schedule (R174) -/

theorem be32At_eq_beNat (b : List Byte) (t : Nat) : be32At b t = BitVec.ofNat 32 (beNat b (4 * t)) := by
  calc be32At b t
    _ = BitVec.ofNat 32 (be32At b t).toNat := by simp
    _ = BitVec.ofNat 32 (beNat b (4 * t)) := by
      rw [be32At, be32_toNat]
      rfl

/-- A word that `extendSchedule` adds comes by the recurrence from the words 3, 8, 14 and 16 places after it, the latest word
standing first. -/
theorem extendSchedule_recurrence (n : Nat) (ws : List Word) (j : Nat) (hj : j < n) :
    let e := extendSchedule n ws
    e.getD j 0#32 =
      rotl (e.getD (j + 3) 0#32 ^^^ e.getD (j + 8) 0#32 ^^^ e.getD (j + 14) 0#32 ^^^ e.getD (j + 16) 0#32) 1 := by
  induction n generalizing ws with
  | zero => omega
  | succ n ih =>
    obtain hlt | rfl := Nat.lt_succ_iff_lt_or_eq.1 hj
    · exact ih _ hlt
    · simp only [extendSchedule, extendSchedule_keeps]
      exact extendSchedule_keeps j _ 0

/-- Word `t` of the schedule, counted from the latest. -/
theorem schedule_getD (block : List Byte) (t : Nat) (ht : t < 80) :
    (schedule block).getD t 0#32 =
      (extendSchedule 64 ((List.range 16).map (be32At block)).reverse).getD (79 - t) 0#32 := by
  rw [schedule, List.getD_reverse _ (by simpa using ht)]
  simp

theorem schedule_first (block : List Byte) (t : Nat) (ht : t < 16) : (schedule block).getD t 0#32 = be32At block t := by
  rw [schedule_getD block t (by omega), show 79 - t = 64 + (15 - t) by omega, extendSchedule_keeps,
    List.getD_reverse _ (by simp; omega)]
  simp [show 15 - (15 - t) = t by omega, ht]

theorem schedule_recurrence (block : List Byte) (t : Nat) (hlo : 16 ≤ t) (hhi : t < 80) :
    (schedule block).getD t 0#32 =
      ((schedule block).getD (t - 3) 0#32 ^^^ (schedule block).getD (t - 8) 0#32 ^^^
        (schedule block).getD (t - 14) 0#32 ^^^ (schedule block).getD (t - 16) 0#32).rotateLeft 1 := by
  have hrec := extendSchedule_recurrence 64 ((List.range 16).map (be32At block)).reverse (79 - t) (by omega)
  rw [← rotl_eq_rotateLeft _ 1 (by decide), schedule_getD block t hhi, schedule_getD block (t - 3) (by omega),
    schedule_getD block (t - 8) (by omega), schedule_getD block (t - 14) (by omega),
    schedule_getD block (t - 16) (by omega), show 79 - (t - 3) = 79 - t + 3 by omega,
    show 79 - (t - 8) = 79 - t + 8 by omega, show 79 - (t - 14) = 79 - t + 14 by omega,
    show 79 - (t - 16) = 79 - t + 16 by omega]
  exact hrec

/-- Settles O36: the block's own words are `schedule_first`, the others `schedule_recurrence`. -/
theorem scheduleFollowsItsRecurrence : Obligations.ScheduleFollowsItsRecurrence := by
  refine fun block => ⟨schedule_length block, fun t ht => ?_, schedule_recurrence block⟩
  exact (schedule_first block t ht).trans (be32At_eq_beNat block t)

/-! ### The rounds (R175, R176) -/

theorem sha1Rounds_concat (t : Nat) (ws : List Word) (w : Word) (r : Digest) :
    sha1Rounds t (ws ++ [w]) r = sha1Round (t + ws.length) w (sha1Rounds t ws r) := by
  induction ws generalizing t r with
  | nil => rfl
  | cons v ws ih =>
    rw [List.cons_append, sha1Rounds, sha1Rounds, ih, List.length_cons, Nat.add_assoc,
      Nat.add_comm 1]

/-- `(a, b, c, d, e)` before round `t` of a block's compression (R176). -/
def roundState (h : Digest) (block : List Byte) (t : Nat) : Digest := sha1Rounds 0 ((schedule block).take t) h

theorem roundState_succ (h : Digest) (block : List Byte) (t : Nat) (ht : t < 80) :
    roundState h block (t + 1) = sha1Round t ((schedule block).getD t 0#32) (roundState h block t) := by
  have hlt : t < (schedule block).length := by rwa [schedule_length]
  rw [roundState, ← List.take_concat_get' _ _ hlt, sha1Rounds_concat, List.length_take_of_le hlt.le, Nat.zero_add,
    List.getD_eq_getElem _ _ hlt, roundState]

theorem sha1Rounds_schedule (h : Digest) (block : List Byte) :
    sha1Rounds 0 (schedule block) h = roundState h block 80 := by
  rw [roundState, List.take_of_length_le (schedule_length block).le]

/-- `f_t` with the ranges as R175 bounds them; from 20 to 39 and from 60 to 79 it is one function. -/
theorem roundF_eq (t : Nat) (b c d : Word) :
    roundF t b c d =
      if t ≤ 19 then (b &&& c) ||| (~~~b &&& d)
      else if 40 ≤ t ∧ t ≤ 59 then (b &&& c) ||| (b &&& d) ||| (c &&& d)
      else b ^^^ c ^^^ d := by
  simp only [roundF, Nat.lt_succ_iff]
  by_cases h : t ≤ 39
  · have hnot : ¬ (40 ≤ t ∧ t ≤ 59) := by omega
    simp only [h, hnot, if_true, if_false]
  · have hiff : 40 ≤ t ∧ t ≤ 59 ↔ t ≤ 59 := by omega
    simp only [h, hiff, if_false]

theorem roundK_eq (t : Nat) :
    roundK t =
      if t ≤ 19 then 0x5A827999#32 else if t ≤ 39 then 0x6ED9EBA1#32 else if t ≤ 59 then 0x8F1BBCDC#32
      else 0xCA62C1D6#32 := by
  simp only [roundK, Nat.lt_succ_iff]

/-- Settles O37: the sequences are the words of `roundState`, and each of its steps is one `sha1Round`. -/
theorem compressionRunsEightyRounds : Obligations.CompressionRunsEightyRounds := by
  intro h block
  refine ⟨fun t => (roundState h block t).h0, fun t => (roundState h block t).h1, fun t => (roundState h block t).h2,
    fun t => (roundState h block t).h3, fun t => (roundState h block t).h4, rfl, rfl, rfl, rfl, rfl, fun t ht => ?_, ?_⟩
  · simp only [roundState_succ h block t ht, sha1Round, roundF_eq, roundK_eq,
      rotl_eq_rotateLeft _ 5 (by decide), rotl_eq_rotateLeft _ 30 (by decide), and_self]
  · rw [compress, sha1Rounds_schedule]

/-! ### The blocks and the digest (R172, R177) -/

theorem splitBlocks_flatten (n : Nat) (m : List Byte) : (splitBlocks n m).flatten = m.take (64 * n) := by
  induction n generalizing m with
  | zero => rfl
  | succ n ih => rw [splitBlocks, List.flatten_cons, ih, Nat.mul_succ, Nat.add_comm, List.take_add]

theorem length_of_mem_splitBlocks (n : Nat) (m : List Byte) (hm : 64 * n ≤ m.length) :
    ∀ b ∈ splitBlocks n m, b.length = 64 := by
  rw [splitBlocks_eq_map]
  simp only [List.mem_map, List.mem_range]
  rintro _ ⟨i, hi, rfl⟩
  rw [List.length_take, List.length_drop]
  omega

theorem byteAt_sha1 (m : List Byte) (i : Nat) (hi : i < 20) :
    byteAt (sha1 m).toList i =
      ([(sha1Digest m).h0, (sha1Digest m).h1, (sha1Digest m).h2, (sha1Digest m).h3, (sha1Digest m).h4].getD
        (i / 4) 0#32).toNat / 2 ^ (24 - 8 * (i % 4)) % 256 := by
  rw [sha1_eq, byteAt_vector _ i hi, digestBytes_getElem _ i hi, wordByte_toNat]

/-- The digest of the empty message (R177). -/
theorem sha1_empty : (List.range 5).map (fun i => beNat (sha1 []).toList (4 * i)) =
    [0xda39a3ee, 0x5e6b4b0d, 0x3255bfef, 0x95601890, 0xafd80709] := by decide +kernel

/-- The digest of "abc" (R177). -/
theorem sha1_abc : (List.range 5).map (fun i => beNat (sha1 [0x61#8, 0x62#8, 0x63#8]).toList (4 * i)) =
    [0xa9993e36, 0x4706816a, 0xba3e2571, 0x7850c26c, 0x9cd0d89d] := by decide +kernel

/-- Settles O38: the blocks are `splitBlocks` (`splitBlocks_eq_map`), which cuts all of `pad m` because its length is a
multiple of 64. -/
theorem sha1CompressesThePaddedBlocks : Obligations.Sha1CompressesThePaddedBlocks := by
  intro m
  have hall : 64 * ((pad m).length / 64) = (pad m).length := by
    have := pad_length_mod m
    omega
  rw [← splitBlocks_eq_map]
  refine ⟨length_of_mem_splitBlocks _ _ hall.le, ?_, byteAt_sha1 m, ?_, ?_⟩
  · rw [splitBlocks_flatten, hall, List.take_length]
  · rintro rfl
    exact sha1_empty
  · rintro rfl
    exact sha1_abc

/-! ### HMAC (R180) -/

/-- Zero bytes at the end of a byte sequence do not show: past its end it reads as zero. -/
theorem byteAt_append_zeros (b : List Byte) (n i : Nat) : byteAt (b ++ List.replicate n 0x00#8) i = byteAt b i := by
  unfold byteAt
  obtain hlt | hge := Nat.lt_or_ge i b.length
  · rw [List.getD_append _ _ _ _ hlt]
  · rw [List.getD_append_right _ _ _ _ hge, List.getD_eq_default _ _ hge, List.getD_eq_getElem?_getD,
      List.getElem?_getD_replicate_default_eq]

theorem byteAt_of_length_le (b : List Byte) (i : Nat) (h : b.length ≤ i) : byteAt b i = 0 := by
  rw [byteAt, List.getD_eq_default _ _ h]
  rfl

theorem hmacKey_of_long (k : List Byte) (h : 64 < k.length) : hmacKey k = (sha1 k).toList := if_pos h

theorem hmacKey_of_short (k : List Byte) (h : k.length ≤ 64) : hmacKey k = k := if_neg (Nat.not_lt.2 h)

/-- The tag depends on the key through the key block alone. -/
theorem hmacSha1_congr {k l : List Byte} (h : hmacBlockKey k = hmacBlockKey l) (m : List Byte) :
    hmacSha1 k m = hmacSha1 l m := by
  rw [hmacSha1, hmacSha1, hmacInner, hmacInner, h]

theorem byteAt_hmacBlockKey (k : List Byte) (i : Nat) :
    byteAt (hmacBlockKey k) i =
      if 64 < k.length then (if i < 20 then byteAt (sha1 k).toList i else 0) else byteAt k i := by
  rw [hmacBlockKey, byteAt_append_zeros]
  split_ifs with hk hi
  · rw [hmacKey_of_long k hk]
  · rw [hmacKey_of_long k hk, byteAt_of_length_le]
    simpa using hi
  · rw [hmacKey_of_short k (Nat.not_lt.1 hk)]

theorem hmacBlockKey_sha1 (k : List Byte) (h : 64 < k.length) : hmacBlockKey (sha1 k).toList = hmacBlockKey k := by
  rw [hmacBlockKey, hmacBlockKey, hmacKey_of_long k h, hmacKey_of_short _ (by simp)]

/-- The zeros that fill the block are the appended ones and the rest. -/
theorem hmacBlockKey_append_zeros (k : List Byte) (j : Nat) (h : k.length + j ≤ 64) :
    hmacBlockKey (k ++ List.replicate j 0x00#8) = hmacBlockKey k := by
  have hlen : (k ++ List.replicate j 0x00#8).length = k.length + j := by simp
  rw [hmacBlockKey, hmacBlockKey, hmacKey_of_short k (by omega), hmacKey_of_short _ (by omega), hlen, List.append_assoc,
    List.replicate_append_replicate, show j + (64 - (k.length + j)) = 64 - k.length by omega]

/-- Settles O39: `K0` is `hmacBlockKey`, read byte by byte in `byteAt_hmacBlockKey`. -/
theorem hmacIsTwoHashesOverTheKeyBlock : Obligations.HmacIsTwoHashesOverTheKeyBlock :=
  fun k _ => ⟨hmacBlockKey k, hmacBlockKey_length k, fun i _ => byteAt_hmacBlockKey k i, rfl⟩

/-- Settles O40: both keys have one key block (`hmacBlockKey_sha1`). -/
theorem hmacOfALongKeyIsHmacOfItsHash : Obligations.HmacOfALongKeyIsHmacOfItsHash :=
  fun k m hk => (hmacSha1_congr (hmacBlockKey_sha1 k hk) m).symm

/-- Settles O41: both keys have one key block (`hmacBlockKey_append_zeros`). -/
theorem hmacIgnoresTrailingZeroKeyBytes : Obligations.HmacIgnoresTrailingZeroKeyBytes :=
  fun k m j h => hmacSha1_congr (hmacBlockKey_append_zeros k j h) m

end Sys2Proof.Machine
end

section
/-! PROOFS. The truncation and the formatter (spec/43_truncation_formatter.md R200 to R203): the value the mask leaves of four
tag bytes, and the six digits that spell its code. -/

namespace Sys2Proof.Machine
open Sys2Proof.Claims

/-! ### The offset and the extracted value (R200, R201) -/

/-- Bit 31 of a big-endian word is the top bit of its first byte. -/
theorem beNat_mod_two_pow_31 (b : List Byte) (i : Nat) :
    beNat b i % 2 ^ 31 =
      byteAt b i % 128 * 2 ^ 24 + byteAt b (i + 1) * 2 ^ 16 + byteAt b (i + 2) * 2 ^ 8 + byteAt b (i + 3) := by
  have h1 : byteAt b (i + 1) < 256 := BitVec.isLt _
  have h2 : byteAt b (i + 2) < 256 := BitVec.isLt _
  have h3 : byteAt b (i + 3) < 256 := BitVec.isLt _
  unfold beNat
  omega

/-- An offset is at most 15, so the four bytes at it end at MAC[18]. -/
theorem extractDbc_set_last (mac : Vector Byte 20) (o : BitVec 4) (b : Byte) :
    extractDbc (mac.set 19 b) o = extractDbc mac o := by
  have ho := o.isLt
  have hkept (i : Nat) (hi : i < 19) : (mac.set 19 b)[i] = mac[i] := Vector.getElem_set_ne _ _ (by omega)
  simp only [extractDbc, hkept o.toNat (by omega), hkept (o.toNat + 1) (by omega), hkept (o.toNat + 2) (by omega),
    hkept (o.toNat + 3) (by omega)]

/-- Settles O42: the value is the big-endian word mod 2^31 (`extractDbc_toNat`), where only the first byte's top bit is lost
(`beNat_mod_two_pow_31`). -/
theorem extractionMasksTheTopBit : Obligations.ExtractionMasksTheTopBit := fun mac =>
  ⟨truncOffset_toNat mac, fun o => (extractDbc_toNat mac o).trans (beNat_mod_two_pow_31 _ _), extractDbc_set_last mac⟩

/-! ### The six digits (R202, R203) -/

/-- The number a sequence of ASCII digits spells, the first digit the most significant. -/
def decimalValue (d : List Byte) : Nat := d.foldl (fun n b => 10 * n + (b.toNat - 0x30)) 0

theorem decimalValue_concat (d : List Byte) (b : Byte) :
    decimalValue (d ++ [b]) = 10 * decimalValue d + (b.toNat - 0x30) := by
  simp [decimalValue]

/-- The first `i` digits of a six-digit code spell the code without its last `6 - i` digits. -/
theorem decimalValue_take_decimal6 (c : BitVec 20) (hc : c.toNat < 10 ^ 6) (i : Nat) (hi : i ≤ 6) :
    decimalValue ((decimal6 c).toList.take i) = c.toNat / 10 ^ (6 - i) := by
  induction i with
  | zero => exact (Nat.div_eq_of_lt hc).symm
  | succ i ih =>
    have hdigit : (decimal6 c).toList.take (i + 1) = (decimal6 c).toList.take i ++ [decimalDigit c i] := by
      rw [List.take_succ_eq_append_getElem (by simpa using hi), Vector.getElem_toList, decimal6_getElem c i hi]
    have hprefix : c.toNat / 10 ^ (6 - i) = c.toNat / 10 ^ (5 - i) / 10 := by
      rw [Nat.div_div_eq_div_mul, ← pow_succ, show 6 - i = 5 - i + 1 by omega]
    rw [hdigit, decimalValue_concat, ih (by omega), hprefix, decimalDigit_toNat, Nat.add_sub_cancel_left,
      Nat.div_add_mod, show 6 - (i + 1) = 5 - i by omega]

theorem decimalValue_decimal6 (c : BitVec 20) (hc : c.toNat < 10 ^ 6) : decimalValue (decimal6 c).toList = c.toNat := by
  simpa [List.take_of_length_le] using decimalValue_take_decimal6 c hc 6 le_rfl

theorem isDigit_of_mem_decimal6 {c : BitVec 20} {b : Byte} (hb : b ∈ (decimal6 c).toList) :
    0x30 ≤ b.toNat ∧ b.toNat ≤ 0x39 := by
  obtain ⟨i, hi, rfl⟩ := Vector.mem_iff_getElem.1 (Vector.mem_toList_iff.1 hb)
  rw [decimal6_getElem c i hi, decimalDigit_toNat]
  omega

/-- Settles O43: the characters are `decimalDigit`'s by definition (`dig_decimal6_iff`), and the code has at most six digits
(`reduceCode_toNat`), so they spell all of it (`decimalValue_decimal6`). -/
theorem digitsSpellTheCode : Obligations.DigitsSpellTheCode := by
  intro x
  have hcode := reduceCode_toNat x
  have hsix : (reduceCode x).toNat < 10 ^ 6 := by omega
  exact ⟨hcode, Vector.length_toList, (dig_decimal6_iff _ _).1 rfl, fun _ => isDigit_of_mem_decimal6,
    decimalValue_decimal6 _ hsix⟩

end Sys2Proof.Machine
end

section
/-! PROOFS. The composite commands against their chains of single commands (spec/44_composite_and_control.md R220, R221,
R227): each command of a list is accepted from idle and completed before the next, and AutoClear may come before TRUNC or
after it. -/

namespace Sys2Proof.Machine
open Sys2Proof.Claims

/-! ### A command accepted and completed (R84) -/

/-- Every command that becomes pending is accepted: released, idle, and KEYLEN legal (R131). -/
structure State.AcceptsCommands (s : State) : Prop where
  released : s.inReset = false
  idle : s.busy = false
  keylen : s.keylen.toNat ≤ 128

/-- `i` accepted from `s` by its CMD write (R134). -/
def started (s : State) (i : Instr) : State := { startCommand (opcode i) s with resp := .okay, turn := .host }

/-- `i` accepted from `s` and completed (R84, R135). -/
def afterCommand (s : State) (i : Instr) : State := completed i { started s i with turn := .core }

theorem State.AcceptsCommands.setEvents {s : State} (hs : s.AcceptsCommands) (es : List Event) :
    AcceptsCommands { s with events := es } :=
  ⟨hs.released, hs.idle, hs.keylen⟩

theorem step_issue_wrCmd {s : State} (hs : s.AcceptsCommands) {i : Instr} (hi : Pends i) :
    step (issue (wrCmd (encode i)) s) = .next (started s i) := by
  have hwellFormed : i.wellFormed = true := by cases i <;> rfl
  rw [stepRunsTheDecodedCommand s (encode i) i hs.released hwellFormed (decode_encode i)]
  exact acceptanceStartsTheCommand { s with resp := .okay, turn := .host } i hi rfl hs.idle fun _ => hs.keylen

theorem step_issue_complete_started {s : State} (hs : s.AcceptsCommands) {i : Instr} (hi : Pends i) :
    step (issue .complete (started s i)) = .next (afterCommand s i) := by
  have hcore : coreStep (started s i) = exec i { started s i with turn := .core } :=
    coreStep_of_pendOp hs.released rfl rfl
  rw [step_issue_complete, hcore]
  exact exec_of_pending (becomesPending_of_pends hi) ⟨rfl, rfl, rfl⟩

/-- A command takes two steps: its CMD write and its completion. -/
theorem core_run_command {s : State} (hs : s.AcceptsCommands) {i : Instr} (hi : Pends i) (k : Nat) :
    core.run (k + 2) (issue (wrCmd (encode i)) (issue .complete s)) = core.run k (afterCommand s i) :=
  (core_run_succ (step_issue_wrCmd (hs.setEvents (.complete :: s.events)) hi) (k + 1)).trans
    (core_run_succ (step_issue_complete_started hs hi) k)

/-! ### A list of commands, one by one -/

/-- No command lengthens the key (R136, R223, R225). -/
theorem completed_keylen_le (i : Instr) (s : State) : (completed i s).keylen.toNat ≤ s.keylen.toNat := by
  have hcleared : (0#8).toNat ≤ s.keylen.toNat := Nat.zero_le _
  rw [completed_keylen]
  split
  · exact hcleared
  · cases i
    case keyclr | zeroize => exact hcleared
    all_goals exact le_rfl

theorem State.AcceptsCommands.afterCommand {s : State} (hs : s.AcceptsCommands) (i : Instr) :
    (afterCommand s i).AcceptsCommands where
  released := (completed_inReset i _).trans hs.released
  idle := finishCommand_busy _
  keylen := (completed_keylen_le i _).trans hs.keylen

/-- No command reads the events still to come. -/
theorem completed_setEvents (i : Instr) (s : State) (es : List Event) :
    completed i { s with events := es } = { completed i s with events := es } := by
  have heffect : commandEffect i { s with events := es } = { commandEffect i s with events := es } := by
    cases i <;> rfl
  rw [completed, completed, heffect, autoClear, autoClear]
  split <;> rfl

/-- The first commands `is` of a list, by induction on them; the others, `js`, are still to come. -/
theorem core_run_oneByOne {is : List Instr} (his : ∀ i ∈ is, Pends i) (js : List Instr) {s : State}
    (hs : s.AcceptsCommands) :
    core.run (2 * is.length) { s with events := oneByOne (is ++ js) } =
      .next { is.foldl afterCommand s with events := oneByOne js } := by
  induction is generalizing s with
  | nil => rfl
  | cons i is ih =>
    obtain ⟨hi, his⟩ := List.forall_mem_cons.1 his
    have hset := completed_setEvents i { started s i with turn := .core } (oneByOne (is ++ js))
    calc core.run (2 * is.length + 2) { s with events := oneByOne (i :: is ++ js) }
      _ = core.run (2 * is.length) (afterCommand { s with events := oneByOne (is ++ js) } i) :=
        core_run_command (hs.setEvents _) hi _
      _ = core.run (2 * is.length) { afterCommand s i with events := oneByOne (is ++ js) } :=
        congrArg (core.run (2 * is.length)) hset
      _ = .next { is.foldl afterCommand (afterCommand s i) with events := oneByOne js } := ih his (hs.afterCommand i)

/-! ### What a command does to the data, and what to the control fields -/

/-- The effect of `i` with its AutoClear, which PEND_ACL takes over from KEY_AUTOCLR at the acceptance (R134, R136). -/
def effected (s : State) (i : Instr) : State :=
  if s.keyAutoclr && isKeyed (opcode i) then clearKey (commandEffect i s) else commandEffect i s

/-- The control fields a command of opcode `op` leaves (R134, R135). -/
def ended (op : Op) (s : State) : State :=
  { s with pendOp := op, pendAcl := s.keyAutoclr, busy := false, done := true, resp := .okay, turn := .core }

theorem afterCommand_eq (s : State) (i : Instr) : afterCommand s i = ended (opcode i) (effected s i) := by
  have heffect : commandEffect i { started s i with turn := .core } = { commandEffect i s with
      pendOp := opcode i, pendAcl := s.keyAutoclr, done := false, busy := true, resp := .okay, turn := .core } := by
    cases i <;> rfl
  have hacl : (commandEffect i s).keyAutoclr = s.keyAutoclr := by cases i <;> rfl
  rw [afterCommand, completed, heffect, autoClear, effected, ended]
  split <;> simp [finishCommand, clearKey, hacl]

/-- No effect reads the control fields of an earlier command. -/
theorem effected_ended (op : Op) (s : State) (i : Instr) : effected (ended op s) i = ended op (effected s i) := by
  have heffect : commandEffect i (ended op s) = ended op (commandEffect i s) := by cases i <;> rfl
  have hacl : (ended op s).keyAutoclr = s.keyAutoclr := rfl
  rw [effected, effected, heffect, hacl]
  split <;> rfl

theorem afterCommand_ended (op : Op) (s : State) (i : Instr) :
    afterCommand (ended op s) i = ended (opcode i) (effected s i) := by
  rw [afterCommand_eq, effected_ended]
  rfl

theorem effected_of_not_keyed {i : Instr} (hi : isKeyed (opcode i) = false) (s : State) :
    effected s i = commandEffect i s := by
  rw [effected, hi, Bool.and_false]
  rfl

theorem effected_of_keyed {i : Instr} (hi : isKeyed (opcode i) = true) (s : State) :
    effected s i = if s.keyAutoclr = true then clearKey (commandEffect i s) else commandEffect i s := by
  rw [effected, hi, Bool.and_true]

/-- TRUNC neither reads nor writes the key (R204). -/
theorem truncEffect_clearKey (s : State) : truncEffect (clearKey s) = clearKey (truncEffect s) := rfl

/-- R220: HMAC may clear the key before TRUNC, as HOTP does after it. -/
theorem effected_hotp (s : State) : effected s .hotp = effected (effected (effected s .encode) .hmac) .trunc := by
  have hacl : (commandEffect .encode s).keyAutoclr = s.keyAutoclr := rfl
  rw [effected_of_not_keyed (i := .encode) rfl, effected_of_not_keyed (i := .trunc) rfl,
    effected_of_keyed (i := .hotp) rfl, effected_of_keyed (i := .hmac) rfl, hacl]
  split
  · exact (truncEffect_clearKey _).symm
  · rfl

/-- R221: TOTP is TSTEP and then HOTP. -/
theorem effected_totp (s : State) : effected s .totp = effected (effected s .tstep) .hotp := by
  rw [effected_of_not_keyed (i := .tstep) rfl, effected_of_keyed (i := .totp) rfl, effected_of_keyed (i := .hotp) rfl]
  rfl

/-! ### The composites (R227) -/

theorem afterCommand_hotp (s : State) :
    afterCommand s .hotp = { [.encode, .hmac, .trunc].foldl afterCommand s with pendOp := 0x5#4 } := by
  simp only [List.foldl_cons, List.foldl_nil, afterCommand_eq s, afterCommand_ended, effected_hotp]
  rfl

theorem afterCommand_totp (s : State) :
    afterCommand s .totp = { [.tstep, .encode, .hmac, .trunc].foldl afterCommand s with pendOp := 0x6#4 } := by
  simp only [List.foldl_cons, List.foldl_nil, afterCommand_eq s, afterCommand_ended, effected_totp, effected_hotp]
  rfl

/-- The CMD write of a command alone: its one busy period begins. -/
theorem core_run_accept {s : State} (hs : s.AcceptsCommands) {i : Instr} (hi : Pends i) :
    core.run 1 { s with events := oneByOne [i] } = .next { started s i with events := [.complete] } :=
  core_run_succ (step_issue_wrCmd (hs.setEvents [.complete]) hi) 0

theorem foldl_afterCommand_done {is : List Instr} (hne : is ≠ []) (s : State) :
    (is.foldl afterCommand s).busy = false ∧ (is.foldl afterCommand s).done = true := by
  induction is generalizing s with
  | nil => exact absurd rfl hne
  | cons i is ih =>
    cases is with
    | nil => exact ⟨rfl, rfl⟩
    | cons => exact ih (List.cons_ne_nil _ _) (afterCommand s i)

/-- After the first `k` commands of a list BUSY = 0 and DONE = 1 are seen. -/
theorem core_run_between {is : List Instr} (his : ∀ i ∈ is, Pends i) {k : Nat} (hpos : 0 < k) (hk : k ≤ is.length)
    {s : State} (hs : s.AcceptsCommands) :
    ∃ v, core.run (2 * k) { s with events := oneByOne is } = .next v ∧ v.busy = false ∧ v.done = true := by
  have hlen : (is.take k).length = k := List.length_take_of_le hk
  have hne : is.take k ≠ [] := List.ne_nil_of_length_pos (by omega)
  have hrun := core_run_oneByOne (is := is.take k) (fun i hi => his i (List.mem_of_mem_take hi)) (is.drop k) hs
  rw [List.take_append_drop, hlen] at hrun
  exact ⟨_, hrun, foldl_afterCommand_done hne s⟩

/-- A composite `i` and its chain `is`: one busy period, the same end but for PEND_OP, and BUSY = 0 with DONE = 1 after each
command of the chain but the last. -/
theorem composite_runs_as_chain {i : Instr} {is : List Instr} (hi : Pends i) (his : ∀ j ∈ is, Pends j)
    (hend : ∀ s, afterCommand s i = { is.foldl afterCommand s with pendOp := opcode i }) {s : State}
    (hs : s.AcceptsCommands) :
    ∃ p t u, core.run 1 { s with events := oneByOne [i] } = .next p ∧ p.busy = true ∧
      core.run 2 { s with events := oneByOne [i] } = .next t ∧
      core.run (2 * is.length) { s with events := oneByOne is } = .next u ∧
      t = { u with pendOp := opcode i } ∧
      ∀ n ∈ (List.range' 1 (is.length - 1)).map (2 * ·), ∃ v,
        core.run n { s with events := oneByOne is } = .next v ∧ v.busy = false ∧ v.done = true := by
  have hcomposite := core_run_oneByOne (is := [i]) (by simpa using hi) [] hs
  have hchain := core_run_oneByOne his [] hs
  rw [List.append_nil] at hchain
  refine ⟨_, _, _, core_run_accept hs hi, rfl, hcomposite, hchain, ?_, ?_⟩
  · rw [List.foldl_cons, List.foldl_nil, hend]
  · rw [List.forall_mem_map]
    intro k hk
    rw [List.mem_range'_1] at hk
    exact core_run_between his (by omega) (by omega) hs

/-- Settles O56: each composite runs as its chain, whose end it shares (`afterCommand_hotp`, `afterCommand_totp`). -/
theorem compositeCommandsEqualTheirChains : Obligations.CompositeCommandsEqualTheirChains := by
  intro s hreleased hidle hlen _
  have hs : s.AcceptsCommands := ⟨hreleased, hidle, hlen⟩
  exact ⟨composite_runs_as_chain (by simp [Pends]) (by simp [Pends]) afterCommand_hotp hs,
    composite_runs_as_chain (by simp [Pends]) (by simp [Pends]) afterCommand_totp hs⟩

end Sys2Proof.Machine
end

section
/-! PROOFS. NOP and the source's two codes (spec/44_composite_and_control.md R220, R222). -/

namespace Sys2Proof.Machine
open Sys2Proof.Claims

/-- Settles O19: NOP's CMD write (`exec_host`) is `nopEffect`, an error event exactly while busy. -/
theorem nopChangesNothingWhileIdle : Obligations.NopChangesNothingWhileIdle := by
  intro s hturn
  rw [exec_host .nop s hturn, presented, nopEffect, errorEvent_eq_recorded]
  constructor
  · intro hidle
    rw [if_neg (by simp [hidle])]
  · intro hbusy
    rw [if_pos hbusy]
    rfl

/-- The code of the tag `mac` (R200 to R202). -/
def tagCode (mac : Vector Byte 20) : BitVec 20 := reduceCode (extractDbc mac (truncOffset mac))

/-- R220: the code HOTP leaves is that of the tag of the counter block. -/
theorem completed_hotp_code (s : State) :
    (completed .hotp s).code = tagCode (hmacSha1 (keyOf s) (bytes64 (ctr s)).toList) :=
  completed_code .hotp s

theorem ctr_eq_ofNat (s : State) : ctr s = BitVec.ofNat 64 (ctrNat s) := by
  rw [ctrNat, ← ctr_toNat, BitVec.ofNat_toNat, BitVec.setWidth_eq]

/-- KRFC, "12345678901234567890" (spec/95 section 1). -/
def sourceKey : List Byte :=
  [0x31#8, 0x32#8, 0x33#8, 0x34#8, 0x35#8, 0x36#8, 0x37#8, 0x38#8, 0x39#8, 0x30#8,
   0x31#8, 0x32#8, 0x33#8, 0x34#8, 0x35#8, 0x36#8, 0x37#8, 0x38#8, 0x39#8, 0x30#8]

/-- spec/95 S1. -/
theorem tagCode_sourceKey_zero : tagCode (hmacSha1 sourceKey (bytes64 0#64).toList) = 755224#20 := by decide +kernel

/-- spec/95 S2. -/
theorem tagCode_sourceKey_one : tagCode (hmacSha1 sourceKey (bytes64 1#64).toList) = 287082#20 := by decide +kernel

/-- Settles O44: the code is the tag's (`completed_hotp_code`), and the two tags are computed. -/
theorem hotpReproducesTheSourcesTwoCodes : Obligations.HotpReproducesTheSourcesTwoCodes := by
  intro s hs hkey
  refine ⟨_, exec_of_pending rfl hs, fun hctr => ?_, fun hctr => ?_⟩
  · rw [completed_hotp_code, hkey, ctr_eq_ofNat, hctr]
    exact tagCode_sourceKey_zero
  · rw [completed_hotp_code, hkey, ctr_eq_ofNat, hctr]
    exact tagCode_sourceKey_one

end Sys2Proof.Machine
end

section
/-! PROOFS. Bus errors (spec/60_exceptions.md R242; spec/20_memory.md R70 to R72): an access gets SLVERR exactly where it
reaches no register. -/

namespace Sys2Proof.Machine

/-- R242 names exactly the accesses that reach no register: above 0x0FC and above 0xFFC an unmapped range holds only offsets
that are not a multiple of 4. -/
theorem accessReg_eq_none_iff_busError (off : Offset) (size : Nat) :
    accessReg off size = none ↔ size ≠ 4 ∨ off.toNat % 4 ≠ 0 ∨ off.toNat = 0x014 ∨
      (0x058 ≤ off.toNat ∧ off.toNat ≤ 0x0FC) ∨ (0x180 ≤ off.toNat ∧ off.toNat ≤ 0xFFC) := by
  have := off.isLt
  rw [accessReg, ite_eq_right_iff, imp_iff_not_or, regAt_eq_none]
  omega

theorem accessed_of_accessReg_none {a : Access} (h : accessReg a.off a.size = none) (s : State) :
    accessed a s = { s with resp := .slverr, turn := .host } := by
  obtain ⟨off, size, dir⟩ := a
  cases dir with
  | read => simp only [accessed, memRead, h]
  | write v => simp only [accessed, h]

/-- An access that reaches a register is answered with the register's data (R70) or with OKAY (R71). -/
theorem accessed_resp_ne_slverr {a : Access} {r : Reg} (h : accessReg a.off a.size = some r) (s : State) :
    (accessed a s).resp ≠ .slverr := by
  obtain ⟨off, size, dir⟩ := a
  cases dir with
  | read =>
    have hdata : (accessed ⟨off, size, .read⟩ s).resp = .data (regRead s r) := by simp only [accessed, memRead, h]
    rw [hdata]
    nofun
  | write v =>
    have hokay : (accessed ⟨off, size, .write v⟩ s).resp = .okay := by simp only [accessed, h, written_resp]
    rw [hokay]
    nofun

/-- Settles O5: R242's condition is that the access reaches no register (`accessReg_eq_none_iff_busError`), and the step's
access (`step_issue_access`) is answered with SLVERR alone then (`accessed_of_accessReg_none`) and with another response
otherwise (`accessed_resp_ne_slverr`). -/
theorem busErrorsAreSizeAlignmentMapping : Obligations.BusErrorsAreSizeAlignmentMapping := by
  intro s a hs bad
  have hbad : accessReg a.off a.size = none ↔ bad := accessReg_eq_none_iff_busError a.off a.size
  rw [step_issue_access a s hs]
  refine ⟨fun h => ?_, fun h t ht => ?_⟩
  · rw [accessed_of_accessReg_none (hbad.2 h)]
  · obtain ⟨r, hr⟩ := Option.ne_none_iff_exists'.1 (mt hbad.1 h)
    obtain rfl := Host.Outcome.next.inj ht
    exact accessed_resp_ne_slverr hr _

end Sys2Proof.Machine
end
